-- ==== Sys2Proof/Word.lean ====
section
/-! DEFINITION. The bit vectors of the block: what 00_scope.md R14 and 30_encoding.md R59 treat as bits. -/

namespace Sys2Proof

/-- A framebuffer byte (20_memory.md R39), and the D operand of an event word (30_encoding.md R63). -/
abbrev Byte := BitVec 8

/-- The 16-bit A operand: a framebuffer address, used as it stands (30_encoding.md R64). -/
abbrev Addr := BitVec 16

/-- One 2-bit sample, a colour index 0 to 3 (30_encoding.md R61); also the value of the NCOLOR = 2 colour lines (R62). -/
abbrev Sample := BitVec 2

/-- An event word: 32 bits, a number with no byte order (30_encoding.md R63). -/
abbrev EventWord := BitVec 32

end Sys2Proof
end

