-- ==== Sys2Proof/Syntax.lean ====
section
/-! DEFINITION. The event alphabet (00_scope.md R3), one constructor per row of spec/opcode_table.json. -/

namespace Sys2Proof

/-- The nine events of 30_encoding.md R66, with the operands of R64 and R65. An operand has the type of its field, so every
value of it is in range (R84: "j, 0 to 255"; R108: "addr, 0 to 65535; data, 0 to 255"). -/
inductive Instr where
  /-- NOP, OP 0x0 (43_host_access.md R107). -/
  | nop
  /-- VTICK, OP 0x1 (40_vertical_handler.md R77). -/
  | vtick
  /-- HTICK j, OP 0x2 (41_horizontal_handler.md R84); j is the entry jitter (R65). -/
  | htick (j : Byte)
  /-- FBWR addr, data, OP 0x3 (43_host_access.md R108). -/
  | fbwr (addr : Addr) (data : Byte)
  /-- FBRD addr, OP 0x4 (43_host_access.md R109). -/
  | fbrd (addr : Addr)
  /-- RDET, OP 0x5 (43_host_access.md R110). -/
  | rdet
  /-- START, OP 0x6 (42_lifecycle.md R100). -/
  | start
  /-- STOP, OP 0x7 (42_lifecycle.md R102). -/
  | stop
  /-- RESET, OP 0xF (42_lifecycle.md R104). -/
  | reset
  deriving DecidableEq, Repr

end Sys2Proof
end

