-- ==== Sys2Proof/Decode.lean ====
section
/-! DEFINITION. The decoder and the encoder of the event word (30_encoding.md R63 to R68, R76). -/

namespace Sys2Proof

/-- Why a word spells no event. The decoder "returns invalid" for each (30_encoding.md R68); the names say which rule. -/
inductive DecodeError where
  /-- OP is 0x8 to 0xE (R68). -/
  | reservedOp
  /-- Z = w[27:24] is not zero (R67). -/
  | nonzeroZ
  /-- A is not zero in an event that does not use it (R67). -/
  | nonzeroA
  /-- D is not zero in an event that does not use it (R67). -/
  | nonzeroD
  deriving DecidableEq, Repr

/-- What the decoder answers: one event, or "invalid" with the reason (30_encoding.md R76). -/
inductive Decoded where
  | event (i : Instr)
  | invalid (e : DecodeError)
  deriving DecidableEq, Repr

/-- OP = w[31:28] (30_encoding.md R63). -/
def opField (w : EventWord) : BitVec 4 := w.extractLsb' 28 4

/-- Z = w[27:24] (R63). -/
def zField (w : EventWord) : BitVec 4 := w.extractLsb' 24 4

/-- A = w[23:8] (R63). -/
def aField (w : EventWord) : Addr := w.extractLsb' 8 16

/-- D = w[7:0] (R63). -/
def dField (w : EventWord) : Byte := w.extractLsb' 0 8

/-- An event that uses neither A nor D (R67). -/
def decodePlain (i : Instr) (w : EventWord) : Decoded :=
  if aField w ≠ 0 then .invalid .nonzeroA else if dField w ≠ 0 then .invalid .nonzeroD else .event i

/-- HTICK uses D only (R67). -/
def decodeHtick (w : EventWord) : Decoded :=
  if aField w ≠ 0 then .invalid .nonzeroA else .event (.htick (dField w))

/-- FBRD uses A only (R67). -/
def decodeFbrd (w : EventWord) : Decoded :=
  if dField w ≠ 0 then .invalid .nonzeroD else .event (.fbrd (aField w))

/-- The event of an operation code, or a reserved code, by the opcode map of 30_encoding.md R66 (OP as a number). -/
def decodeOp (op : Nat) (w : EventWord) : Decoded :=
  match op with
  | 0 => decodePlain .nop w
  | 1 => decodePlain .vtick w
  | 2 => decodeHtick w
  | 3 => .event (.fbwr (aField w) (dField w))
  | 4 => decodeFbrd w
  | 5 => decodePlain .rdet w
  | 6 => decodePlain .start w
  | 7 => decodePlain .stop w
  | 15 => decodePlain .reset w
  | _ => .invalid .reservedOp

/-- The decoder: total on the 2^32 words (30_encoding.md R76). A reserved OP is named before a nonzero Z. -/
def decode (w : EventWord) : Decoded :=
  match decodeOp (opField w).toNat w with
  | .invalid .reservedOp => .invalid .reservedOp
  | d => if zField w ≠ 0 then .invalid .nonzeroZ else d

/-- The word with the given fields and Z = 0 (30_encoding.md R63). -/
def packWord (op : BitVec 4) (a : Addr) (d : Byte) : EventWord :=
  (op.setWidth 32 <<< 28) ||| (a.setWidth 32 <<< 8) ||| d.setWidth 32

/-- The encoder: the word of an event, every unused bit zero (30_encoding.md R66, R67). -/
def encode (i : Instr) : EventWord :=
  match i with
  | .nop => packWord 0x0#4 0 0
  | .vtick => packWord 0x1#4 0 0
  | .htick j => packWord 0x2#4 0 j
  | .fbwr a d => packWord 0x3#4 a d
  | .fbrd a => packWord 0x4#4 a 0
  | .rdet => packWord 0x5#4 0 0
  | .start => packWord 0x6#4 0 0
  | .stop => packWord 0x7#4 0 0
  | .reset => packWord 0xF#4 0 0

/-- Whether a word spells an event (30_encoding.md R67, R68). -/
def wordValid (w : EventWord) : Bool :=
  match decode w with
  | .event _ => true
  | .invalid _ => false

/-- The match column of 30_encoding.md R66 for an event's row. -/
def rowMatch (i : Instr) : EventWord :=
  match i with
  | .nop => 0x00000000#32
  | .vtick => 0x10000000#32
  | .htick _ => 0x20000000#32
  | .fbwr _ _ => 0x30000000#32
  | .fbrd _ => 0x40000000#32
  | .rdet => 0x50000000#32
  | .start => 0x60000000#32
  | .stop => 0x70000000#32
  | .reset => 0xF0000000#32

/-- The mask column of 30_encoding.md R66 for an event's row. -/
def rowMask (i : Instr) : EventWord :=
  match i with
  | .htick _ => 0xFFFFFF00#32
  | .fbwr _ _ => 0xFF000000#32
  | .fbrd _ => 0xFF0000FF#32
  | .nop => 0xFFFFFFFF#32
  | .vtick => 0xFFFFFFFF#32
  | .rdet => 0xFFFFFFFF#32
  | .start => 0xFFFFFFFF#32
  | .stop => 0xFFFFFFFF#32
  | .reset => 0xFFFFFFFF#32

/-- The event's operands are the fields A and D of the word (30_encoding.md R64); an event without operands asks nothing. -/
def operandsFrom (w : EventWord) (i : Instr) : Prop :=
  match i with
  | .htick j => j = dField w
  | .fbwr a d => a = aField w ∧ d = dField w
  | .fbrd a => a = aField w
  | .nop => True
  | .vtick => True
  | .rdet => True
  | .start => True
  | .stop => True
  | .reset => True

/-- The host's view of the decoder: the event spelled by the low `nbits` bits of `w`, every higher bit 0. The word is a
number and has no byte order (30_encoding.md R63), so there is nothing to lay out. -/
def decodeTableWord (nbits w : Nat) : Option Instr :=
  match decode (BitVec.ofNat 32 (w % 2 ^ nbits)) with
  | .event i => some i
  | .invalid _ => none

end Sys2Proof
end

