-- ==== Sys2Proof/Config.lean ====
section
/-! DEFINITION. The build-time parameters of 00_scope.md R7 to R11 as one record, the two test configurations of
95_test_vectors.md, and the free values. -/

namespace Sys2Proof

/-- The parameters of 00_scope.md R7 (geometry), R8 (frame), R9 (timing), R10 (output), R11 (widths). The spec leaves them
open: "Every parameter below is therefore an argument of the model". The derived ones (FB_SIZE, EMIT_START, ...) are in
Machine/Params.lean. -/
structure Config where
  /-- VISIBLE_LINES, VL (R7). -/
  visibleLines : Nat
  /-- BYTES_PER_ROW, BPR (R7). -/
  bytesPerRow : Nat
  /-- BYTES_PER_VISIBLE_ROW, BPV (R7). -/
  bytesPerVisibleRow : Nat
  /-- FRAME_LINES, F (R8). -/
  frameLines : Nat
  /-- SKIP_LINES, S (R8). -/
  skipLines : Nat
  /-- VSCALE, V (R8). -/
  vscale : Nat
  /-- LINE_PERIOD, LP, in cycles (R9). -/
  linePeriod : Nat
  /-- HSYNC_WIDTH, in cycles (R9). -/
  hsyncWidth : Nat
  /-- VSYNC_WIDTH, in cycles (R9). -/
  vsyncWidth : Nat
  /-- HSYNC_POL: the level of HSYNC while asserted (R9). -/
  hsyncPol : Bool
  /-- VSYNC_POL: the level of VSYNC while asserted (R9). -/
  vsyncPol : Bool
  /-- W, the dejitter alignment window (R9). -/
  window : Nat
  /-- ENTRY_BASE, the smallest entry phase (R9). -/
  entryBase : Nat
  /-- CPS, cycles per sample (R9). -/
  cps : Nat
  /-- NCOLOR (R10); R12 admits only 2. -/
  ncolor : Nat
  /-- SKIP_W (R11). -/
  skipW : Nat
  /-- ALINE_W (R11). -/
  alineW : Nat
  /-- ROW_W (R11). -/
  rowW : Nat
  /-- REP_W (R11). -/
  repW : Nat
  /-- ET_W (R11). -/
  etW : Nat
  /-- ADDR_W (R11). -/
  addrW : Nat
  deriving DecidableEq, Repr

/-- TINY, the small complete configuration of 95_test_vectors.md, with the default widths of R11. -/
def Config.tiny : Config :=
  { visibleLines := 2, bytesPerRow := 2, bytesPerVisibleRow := 2, frameLines := 8, skipLines := 2, vscale := 2,
    linePeriod := 32, hsyncWidth := 4, vsyncWidth := 40, hsyncPol := true, vsyncPol := true,
    window := 4, entryBase := 3, cps := 2, ncolor := 2,
    skipW := 8, alineW := 16, rowW := 8, repW := 8, etW := 32, addrW := 16 }

/-- REF of 00_scope.md R13 with the three values 95_test_vectors.md adds (F = 525, S = 90, W = 8). The spec gives REF no
clocked parameter; they are 0 here, so that REF is admissible at the event level only. -/
def Config.ref : Config :=
  { visibleLines := 80, bytesPerRow := 24, bytesPerVisibleRow := 24, frameLines := 525, skipLines := 90, vscale := 5,
    linePeriod := 0, hsyncWidth := 0, vsyncWidth := 0, hsyncPol := false, vsyncPol := false,
    window := 8, entryBase := 0, cps := 0, ncolor := 2,
    skipW := 8, alineW := 16, rowW := 8, repW := 8, etW := 32, addrW := 16 }

/-- FREE VALUE: what the framebuffer byte at an address holds at power-on. 10_state.md R36: "reading an arbitrary byte (a
draw), not zero"; fixed once drawn (93_implementation_defined.md U5), hence a function of the address alone. Log 5. -/
opaque Config.powerOnByte : Nat → Byte

/-- FREE VALUE: what `h_rdata` shows in a cycle with no accepted read (70_reset_and_hazards.md R160: "otherwise its value
is unspecified"), one value for each count of such cycles. Log 6. -/
opaque Config.unspecifiedRdata : Nat → Nat

end Sys2Proof
end

