-- ==== Sys2Proof/Machine/Params.lean ====
section
/-! DEFINITION. The derived parameters of 00_scope.md R7, R9, R10 and 10_state.md R18, and the colour mapping of R62. -/

namespace Sys2Proof

/-- FB_SIZE = VL × BPR (00_scope.md R7, 20_memory.md R39). -/
def Config.fbSize (c : Config) : Nat := c.visibleLines * c.bytesPerRow

/-- WIDTH = 4 × BPR, in pixels (R7). -/
def Config.width (c : Config) : Nat := 4 * c.bytesPerRow

/-- HEIGHT = VL, in pixels (R7). -/
def Config.height (c : Config) : Nat := c.visibleLines

/-- FRAME_PERIOD = F × LP, in cycles (R9). -/
def Config.framePeriod (c : Config) : Nat := c.frameLines * c.linePeriod

/-- EMIT_START = ENTRY_BASE + W + 1 (R9): the line phase at which the first sample appears. -/
def Config.emitStart (c : Config) : Nat := c.entryBase + c.window + 1

/-- The number of samples of a pixel-bearing line, 4 × BPV (41_horizontal_handler.md R89). -/
def Config.samplesPerLine (c : Config) : Nat := 4 * c.bytesPerVisibleRow

/-- BLANK_START = EMIT_START + 4 × BPV × CPS (R9): the line phase at which the blanking sample appears. -/
def Config.blankStart (c : Config) : Nat := c.emitStart + c.samplesPerLine * c.cps

/-- The one-before-first sentinel 2^ALINE_W − 1 (10_state.md R18). -/
def Config.alineSentinel (c : Config) : Nat := 2 ^ c.alineW - 1

/-- The width of `h_rdata`, max(ET_W, 8) (70_reset_and_hazards.md R159). -/
def Config.rdataW (c : Config) : Nat := max c.etW 8

/-- COLOR_MAP(c) = c (00_scope.md R10, 30_encoding.md R62). -/
def colorMap (c : Sample) : Sample := c

/-- BLANK = 0b00, both colour lines low (R10, R62). -/
def blank : Sample := 0#2

end Sys2Proof
end

