-- ==== Sys2Proof/Machine/State.lean ====
section
/-! DEFINITION. State as plain data: the architectural and the realisation state of 10_state.md, the observation (R32), the
configuration and the input still to come; the reasons a step can stop; the state after reset (R35). -/

namespace Sys2Proof.Machine

/-- The framebuffer: (address, byte) pairs at strictly rising addresses. An unlisted address is one that nothing has
written (10_state.md R36: "A model gives each byte no value until a host FBWR writes it"). Log 5. -/
abbrev Memory := List Host.Cell

/-- SEQ, the sequencer position (10_state.md R27). -/
inductive Seq where
  /-- IDLE: no handler body is executing. -/
  | idle
  /-- ALIGN: the dejitter delay is running. -/
  | align
  /-- EMIT: samples are being driven. -/
  | emit
  deriving DecidableEq, Repr

/-- A line record (41_horizontal_handler.md R83). -/
inductive LineRecord where
  /-- The colour output holds BLANK for the whole line. -/
  | noPixels
  /-- The samples, each shown for `cps` cycles from line phase `start` on; BLANK before and after. -/
  | pixels (start cps : Nat) (samples : List Sample)
  /-- A `pixels` record cut short by `rst` (42_lifecycle.md R104): the samples begun, shown as those of `pixels` before line
  phase `stop`; BLANK from there on. The form is log 13. -/
  | cutShort (start cps : Nat) (samples : List Sample) (stop : Nat)
  deriving DecidableEq, Repr

/-- The value a host read event returns (10_state.md R32 (b)). -/
inductive HostValue where
  /-- The byte FBRD returns (43_host_access.md R109). -/
  | byte (b : Byte)
  /-- The count RDET returns (43_host_access.md R110). -/
  | elapsed (t : Nat)
  deriving DecidableEq, Repr

/-- The input ports in one cycle (70_reset_and_hazards.md R159); `clk` is the step itself. -/
structure PinsIn where
  rst : Bool
  hCmd : BitVec 3
  hAddr : Addr
  hWdata : Byte
  iack : Bool
  deriving DecidableEq, Repr

/-- The output ports in one cycle (70_reset_and_hazards.md R159). -/
structure PinsOut where
  hRdata : Nat
  hReady : Bool
  irqV : Bool
  irqH : Bool
  hsync : Bool
  vsync : Bool
  color : Sample
  deriving DecidableEq, Repr

/-- The input still to come, at one of the two levels of 00_scope.md R3 (10_state.md R34: parameters of the step relation).
Log 3, log 4. -/
inductive Trace where
  /-- An event trace, one word per event (30_encoding.md R63). -/
  | events (words : List EventWord)
  /-- A run of the clocked realisation, the input ports of each cycle. -/
  | cycles (pins : List PinsIn)
  deriving DecidableEq, Repr

/-- Every piece of state of 10_state.md R15, the observation of R32, and the model's own fields (log 1, 3, 6, 7). The registers
are unsigned integers with a width parameter (R11, R37, log 8). -/
structure State where
  /-- The configuration; R24: no event writes it (log 1). -/
  cfg : Config
  /-- VSKIP, x[0] (R17). -/
  vskip : Nat
  /-- ALINE, x[1] (R18). -/
  aline : Nat
  /-- ROW, x[2] (R19). -/
  row : Nat
  /-- REP, x[3] (R20). -/
  rep : Nat
  /-- ET (R21). -/
  et : Nat
  /-- RUN (R23). -/
  run : Bool
  /-- FB (R31). -/
  fb : Memory
  /-- VPEND (R25). -/
  vpend : Bool
  /-- HPEND (R25). -/
  hpend : Bool
  /-- HCNT, the line phase (R26). -/
  hcnt : Nat
  /-- VCNT (R26). -/
  vcnt : Nat
  /-- SEQ (R27). -/
  seq : Seq
  /-- DLY (R28). -/
  dly : Nat
  /-- K (R28). -/
  k : Nat
  /-- PH (R28). -/
  ph : Nat
  /-- CURB (R28). -/
  curb : Byte
  /-- COLOR (R29). -/
  color : Sample
  /-- The output trace, oldest first (R32 (a)). -/
  records : List LineRecord
  /-- What FBRD and RDET have returned, oldest first (R32 (b)). -/
  returned : List HostValue
  /-- The output ports of every clocked cycle so far, oldest first (R32 (c)). -/
  pins : List PinsOut
  /-- How many free values of h_rdata have been drawn (log 6). -/
  draws : Nat
  /-- The input still to come (log 3). -/
  trace : Trace
  deriving DecidableEq, Repr

/-- The points at which the source calls the output undefined (60_exceptions.md R124). -/
inductive Violation where
  /-- Code 1: a pixel-bearing HTICK entered outside the dejitter window (41_horizontal_handler.md R87). -/
  | jitter
  /-- Code 2: a horizontal tick that finds HPEND set (60_exceptions.md R132). -/
  | lostTick
  deriving DecidableEq, Repr

/-- The faults of the model; the hardware raises none (60_exceptions.md R123, R124). -/
inductive Fault where
  /-- Raised by HTICK, by a clocked horizontal entry, and by a clocked horizontal tick. Safe: the hardware goes on with output
  the source calls undefined, and no claim is made about it. -/
  | timingViolation (v : Violation)
  deriving DecidableEq, Repr

/-- The code of 60_exceptions.md R124. -/
def Fault.code (f : Fault) : Nat :=
  match f with
  | .timingViolation .jitter => 1
  | .timingViolation .lostTick => 2

/-- Why a step has no meaning. -/
inductive Refusal where
  /-- An event whose meaning is not written yet; raised by exec's arms only. Safe. -/
  | notModelled (mnemonic : String)
  /-- VTICK or HTICK with RUN = 0: "not a step of the hardware" (40_vertical_handler.md R81, 41_horizontal_handler.md R84);
  raised by those two meanings. Safe: the hardware has no such step. -/
  | handlerDisarmed
  /-- The configuration is not admissible: "the model refuses any other configuration" (00_scope.md R12); raised by step. Safe. -/
  | inadmissibleConfig
  /-- The trace holds a word that spells no event: "refused as a whole" (30_encoding.md R68); raised by step. Safe. -/
  | invalidWord
  /-- The trace is at its end: a program is a finite trace (00_scope.md R14, glossary); raised by step. Safe. -/
  | traceEnded
  deriving DecidableEq, Repr

/-- The reset values of 10_state.md R35 for a configuration; framebuffer bytes unspecified (R36), nothing observed yet, no
input. HSYNC and VSYNC hold no state (R30). -/
def State.resetOf (c : Config) : State :=
  { cfg := c
    vskip := c.skipLines
    aline := c.alineSentinel
    row := 0
    rep := 0
    et := 0
    run := false
    fb := []
    vpend := false
    hpend := false
    hcnt := 0
    vcnt := 0
    seq := .idle
    dly := 0
    k := 0
    ph := 0
    curb := 0
    color := blank
    records := []
    returned := []
    pins := []
    draws := 0
    trace := .events [] }

/-- The machine right after power-on and reset (10_state.md R35), in the configuration TINY (log 2). -/
def State.reset : State := State.resetOf Config.tiny

end Sys2Proof.Machine
end

