-- ==== Sys2Proof/Machine/Operands.lean ====
section
/-! DEFINITION. Operand forms: the packed pixel byte (R41, R60, R61), row and pixel addresses (R40, R42), the recorded jitter
(R65), the host port command (R71). -/

namespace Sys2Proof.Machine

/-- `sample(b, s) = (b >> (6 − 2s)) & 3 = b[7 − 2s : 6 − 2s]`, for s = 0 to 3 (30_encoding.md R61). -/
def sample (b : Byte) (s : Nat) : Sample := b.extractLsb' (6 - 2 * s) 2

/-- The four samples of a byte in the order of emission, most significant pair first (20_memory.md R41). -/
def samplesOfByte (b : Byte) : List Sample := [sample b 0, sample b 1, sample b 2, sample b 3]

/-- The address of byte `i` of framebuffer row `r` (20_memory.md R40, R46). -/
def rowAddr (c : Config) (r i : Nat) : Nat := r * c.bytesPerRow + i

/-- The address of the byte that holds pixel (x, y) (20_memory.md R42). -/
def pixelAddr (c : Config) (x y : Nat) : Nat := y * c.bytesPerRow + x / 4

/-- The pixel position of column x within its byte (20_memory.md R42). -/
def pixelPos (x : Nat) : Nat := x % 4

/-- The byte `v` with pixel position `s` set to `c`: `(v & ~(3 << sh) & 0xFF) | (c << sh)` with sh = 6 − 2s
(43_host_access.md R113). -/
def setSample (v : Byte) (s : Nat) (c : Sample) : Byte :=
  (v &&& ~~~((3#8) <<< (6 - 2 * s))) ||| ((c.setWidth 8) <<< (6 - 2 * s))

/-- The byte with one colour in all four fields, c × 0x55 (43_host_access.md R115). -/
def fillByte (c : Sample) : Byte := c.setWidth 8 * 0x55#8

/-- The jitter as an event word records it: the entry phase minus ENTRY_BASE, and 255 when that is negative or above 255
(30_encoding.md R65, 70_reset_and_hazards.md R169). -/
def recordedJitter (c : Config) (phase : Nat) : Byte :=
  if c.entryBase ≤ phase ∧ phase - c.entryBase ≤ 255 then BitVec.ofNat 8 (phase - c.entryBase) else 255#8

/-- The event a host port command stands for: h_cmd is the low three bits of its OP; the reserved codes 1 and 2 act as NOP
(30_encoding.md R71). -/
def hostCommand (p : PinsIn) : Instr :=
  match p.hCmd.toNat with
  | 3 => .fbwr p.hAddr p.hWdata
  | 4 => .fbrd p.hAddr
  | 5 => .rdet
  | 6 => .start
  | 7 => .stop
  | _ => .nop

end Sys2Proof.Machine
end

