-- ==== Sys2Proof/Machine/Ops.lean ====
section
/-! DEFINITION. The named operations over memory and registers that the meanings and the clocked schedule share. -/

namespace Sys2Proof.Machine

/-! ## The framebuffer (20_memory.md) -/

/-- The byte written at an address, if any has been. -/
def Memory.read (m : Memory) (a : Nat) : Option Byte :=
  match m with
  | [] => none
  | (b, v) :: rest => if b = a then some v else Memory.read rest a

/-- Store one byte, keeping the addresses strictly rising (20_memory.md R46, R49). -/
def Memory.write (m : Memory) (a : Nat) (v : Byte) : Memory :=
  match m with
  | [] => [(a, v)]
  | (b, u) :: rest =>
    if a < b then (a, v) :: (b, u) :: rest
    else if a = b then (a, v) :: rest
    else (b, u) :: Memory.write rest a v

/-- Every address of the list is above `lo`, and they rise strictly. -/
def Memory.rising (lo : Nat) (m : Memory) : Bool :=
  match m with
  | [] => true
  | (b, _) :: rest => decide (lo ≤ b) && Memory.rising (b + 1) rest

/-- The canonical form: strictly rising addresses, each listed once. -/
def Memory.wf (m : Memory) : Bool := Memory.rising 0 m

/-- `MemRead(addr, 1)` (00_scope.md R14): the latest byte written, or the unspecified initial content (20_memory.md R53,
10_state.md R36). -/
def State.memRead (s : State) (a : Nat) : Byte :=
  match s.fb.read a with
  | some v => v
  | none => Config.powerOnByte a

/-- FBRD's value: the byte below FB_SIZE, 0x00 from there on (20_memory.md R50, 43_host_access.md R109). -/
def State.hostRead (s : State) (a : Addr) : Byte :=
  if a.toNat < s.cfg.fbSize then s.memRead a.toNat else 0

/-- FBWR's effect: the byte stored below FB_SIZE, nothing from there on (20_memory.md R50, 43_host_access.md R108). -/
def State.hostWrite (s : State) (a : Addr) (d : Byte) : State :=
  if a.toNat < s.cfg.fbSize then { s with fb := s.fb.write a.toNat d } else s

/-! ## The observation (10_state.md R32) -/

/-- `emit record`: append a line record to the output trace (R83). -/
def State.emitRecord (s : State) (r : LineRecord) : State := { s with records := s.records ++ [r] }

/-- `return v`: the value a host read event returns. -/
def State.returnValue (s : State) (v : HostValue) : State := { s with returned := s.returned ++ [v] }

/-! ## The vertical handler (40_vertical_handler.md R77) -/

/-- The five writes of VTICK, together. -/
def State.vtickWrites (s : State) : State :=
  { s with
    aline := s.cfg.alineSentinel
    vskip := s.cfg.skipLines
    rep := 0
    row := 0
    et := (s.et + 1) % 2 ^ s.cfg.etW }

/-! ## The horizontal handler (41_horizontal_handler.md) -/

/-- The three cases of an HTICK (R84). -/
inductive LineCase where
  | skip
  | emit
  | idle
  deriving DecidableEq, Repr

/-- Which case an HTICK takes, by the state it finds (R84). -/
def State.lineCase (s : State) : LineCase :=
  if s.vskip ≠ 0 then .skip else if s.row < s.cfg.visibleLines then .emit else .idle

/-- SKIP: VSKIP − 1 and NoPixels (R85). -/
def State.skipLine (s : State) : State := ({ s with vskip := s.vskip - 1 }).emitRecord .noPixels

/-- IDLE: NoPixels and nothing else (R94). -/
def State.idleLine (s : State) : State := s.emitRecord .noPixels

/-- `align_delay(j) = (W − 1) − j` (R87). -/
def alignDelay (c : Config) (j : Nat) : Nat := (c.window - 1) - j

/-- The bytes of the row a pixel-bearing line reads, in ascending address order (R89, 20_memory.md R46). -/
def State.rowBytes (s : State) : List Byte :=
  (List.range s.cfg.bytesPerVisibleRow).map (fun i => s.memRead (rowAddr s.cfg s.row i))

/-- The 4 × BPV samples of the line (R89). -/
def State.rowSamples (s : State) : List Sample := s.rowBytes.flatMap samplesOfByte

/-- `Pixels(EMIT_START, CPS, samples)` for the row ROW (R83, R86). -/
def State.lineRecord (s : State) : LineRecord := .pixels s.cfg.emitStart s.cfg.cps s.rowSamples

/-- The record of the line in progress as `rst` cuts it short (42_lifecycle.md R104): the samples begun so far, and BLANK from
the next line phase on. `none` when no body is in progress. Log 13. -/
def State.cutRecord (s : State) : Option LineRecord :=
  match s.seq with
  | .idle => none
  | .align => some (.cutShort s.cfg.emitStart s.cfg.cps [] (s.hcnt + 1))
  | .emit => some (.cutShort s.cfg.emitStart s.cfg.cps (s.rowSamples.take (s.k + 1)) (s.hcnt + 1))

/-- The body in progress, if any, is abandoned: its line record, cut short, is appended (42_lifecycle.md R104). -/
def State.abandonLine (s : State) : State := { s with records := s.records ++ s.cutRecord.toList }

/-- Step 2c and the advance of ALINE (R92, R93). -/
def State.advanceCounters (s : State) : State :=
  { s with
    aline := (s.aline + 1) % 2 ^ s.cfg.alineW
    rep := if s.rep + 1 = s.cfg.vscale then 0 else (s.rep + 1) % 2 ^ s.cfg.repW
    row := if s.rep + 1 = s.cfg.vscale then s.row + 1 else s.row }

/-- The end of a pixel-bearing invocation: its record, its counter writes, the blanking sample, the sequencer idle
(R86, R91; 70_reset_and_hazards.md R167). Handler return restores nothing (60_exceptions.md R135). -/
def State.finishLine (s : State) : State :=
  { (s.emitRecord s.lineRecord).advanceCounters with color := blank, seq := .idle }

/-! ## Lifecycle (42_lifecycle.md) -/

/-- START's writes (R100), those of the clocked realisation among them. -/
def State.startWrites (s : State) : State :=
  { s with run := true, hcnt := 0, vcnt := 0, vpend := false, hpend := false, color := blank }

/-- STOP's writes (R102): the timer counters keep their values. -/
def State.stopWrites (s : State) : State := { s with run := false, vpend := false, hpend := false }

/-- RESET: every register to its reset value (R104, 10_state.md R35); the framebuffer, the observation so far, the
configuration and the input still to come are no registers and stay. -/
def State.resetRegisters (s : State) : State :=
  { s with
    vskip := s.cfg.skipLines
    aline := s.cfg.alineSentinel
    row := 0
    rep := 0
    et := 0
    run := false
    vpend := false
    hpend := false
    hcnt := 0
    vcnt := 0
    seq := .idle
    dly := 0
    k := 0
    ph := 0
    curb := 0
    color := blank }

/-! ## Handler entry (60_exceptions.md R129, R133): this block's trap entry. Return is `State.finishLine`. -/

/-- Which handler an entry enters: the vertical one if VPEND = 1, else the horizontal one if HPEND = 1, else none
(R129, R130). -/
inductive Handler where
  | vertical
  | horizontal
  deriving DecidableEq, Repr

def State.requested (s : State) : Option Handler :=
  if s.vpend then some .vertical else if s.hpend then some .horizontal else none

/-- A horizontal entry at the line phase HCNT: the case is chosen; SKIP and IDLE end at once; EMIT looks the delay up and starts
the sequencer, or the model raises TimingViolation(JITTER) (70_reset_and_hazards.md R164). `none` is that fault. -/
def State.enterHorizontal (s : State) : Option State :=
  match s.lineCase with
  | .skip => some s.skipLine
  | .idle => some s.idleLine
  | .emit =>
    if s.cfg.entryBase ≤ s.hcnt ∧ s.hcnt - s.cfg.entryBase < s.cfg.window then
      some { s with dly := alignDelay s.cfg (s.hcnt - s.cfg.entryBase), seq := .align }
    else none

end Sys2Proof.Machine
end

