-- ==== Sys2Proof/Machine/Flags.lean ====
section
/-! DEFINITION. The pending flags, the timer counters and the sync lines (60_exceptions.md). The block has no arithmetic
flag (10_state.md R25). -/

namespace Sys2Proof.Machine

/-- The horizontal channel ticks in this cycle (60_exceptions.md R139). -/
def State.hTick (s : State) : Bool := s.run && decide (s.hcnt = s.cfg.linePeriod - 1)

/-- The vertical channel ticks in this cycle (R140). -/
def State.vTick (s : State) : Bool := s.run && decide (s.vcnt = s.cfg.framePeriod - 1)

/-- HCNT after the cycle: counts modulo LINE_PERIOD while RUN = 1, holds while RUN = 0 (R139). -/
def State.nextHcnt (s : State) : Nat :=
  if s.run then (if s.hcnt = s.cfg.linePeriod - 1 then 0 else s.hcnt + 1) else s.hcnt

/-- VCNT after the cycle (R140). -/
def State.nextVcnt (s : State) : Nat :=
  if s.run then (if s.vcnt = s.cfg.framePeriod - 1 then 0 else s.vcnt + 1) else s.vcnt

/-- HSYNC: the level HSYNC_POL while RUN = 1 and HCNT < HSYNC_WIDTH, its complement otherwise (R143, 10_state.md R30). -/
def State.hsync (s : State) : Bool :=
  if s.run ∧ s.hcnt < s.cfg.hsyncWidth then s.cfg.hsyncPol else !s.cfg.hsyncPol

/-- VSYNC: the level VSYNC_POL while RUN = 1 and VCNT < VSYNC_WIDTH, its complement otherwise (R144, 10_state.md R30). -/
def State.vsync (s : State) : Bool :=
  if s.run ∧ s.vcnt < s.cfg.vsyncWidth then s.cfg.vsyncPol else !s.cfg.vsyncPol

/-- A cycle is an entry cycle when iack = 1, SEQ = IDLE and VPEND or HPEND is 1; this is the handler entered
(70_reset_and_hazards.md R162). An iack otherwise is ignored (60_exceptions.md R129). -/
def State.entered (p : PinsIn) (s : State) : Option Handler :=
  if p.iack ∧ s.seq = .idle then s.requested else none

/-- VPEND after the cycle: (old flag and not entered) or ticked (70_reset_and_hazards.md R161 (5)). -/
def State.nextVpend (p : PinsIn) (s : State) : Bool := (s.vpend && s.entered p != some .vertical) || s.vTick

/-- HPEND after the cycle (R161 (5)). -/
def State.nextHpend (p : PinsIn) (s : State) : Bool := (s.hpend && s.entered p != some .horizontal) || s.hTick

/-- The horizontal timer ticks while HPEND is still set (60_exceptions.md R132). An entry of the same cycle takes the old tick,
so none is lost (R131). -/
def State.lostTick (p : PinsIn) (s : State) : Bool := s.hTick && s.hpend && s.entered p != some .horizontal

end Sys2Proof.Machine
end

