-- ==== Sys2Proof/Machine/Clocked.lean ====
section
/-! DEFINITION. The clocked realisation (70_reset_and_hazards.md section 4): one cycle, from the state at its start and its
input ports. -/

namespace Sys2Proof.Machine

/-! ## Ports (R159, R160, R168) -/

/-- `h_ready` = 1 exactly when rst = 0, SEQ = IDLE and iack = 0 (R168). -/
def State.hReady (p : PinsIn) (s : State) : Bool := !p.rst && decide (s.seq = .idle) && !p.iack

/-- The host command accepted in this cycle, if any (R160). -/
def State.accepted (p : PinsIn) (s : State) : Option Instr :=
  if s.hReady p then some (hostCommand p) else none

/-- What `h_rdata` shows: the byte of an accepted FBRD zero-extended, ET for an accepted RDET; `none` where its value is
unspecified (R160). -/
def State.rdata (p : PinsIn) (s : State) : Option Nat :=
  match s.accepted p with
  | some (.fbrd a) => some (s.hostRead a).toNat
  | some .rdet => some s.et
  | _ => none

/-- The output ports of the cycle (R159); an unspecified h_rdata is a free value of its width (log 6). -/
def State.portsOut (p : PinsIn) (s : State) : PinsOut :=
  { hRdata :=
      match s.rdata p with
      | some v => v
      | none => Config.unspecifiedRdata s.draws % 2 ^ s.cfg.rdataW
    hReady := s.hReady p
    irqV := s.vpend
    irqH := s.hpend
    hsync := s.hsync
    vsync := s.vsync
    color := s.color }

/-- The outputs of the cycle observed (10_state.md R32 (c)); a free value counted when one was drawn. -/
def State.observePins (p : PinsIn) (s : State) : State :=
  { s with
    pins := s.pins ++ [s.portsOut p]
    draws := if (s.rdata p).isSome then s.draws else s.draws + 1 }

/-! ## The sequencer (R165, R166) -/

/-- Show the first sample of a newly read byte (R165, R166). -/
def State.showByte (s : State) (b : Byte) : State := { s with curb := b, color := colorMap (sample b 0) }

/-- An ALIGN cycle: one wait cycle, or the first read cycle (R165). -/
def State.alignStep (s : State) : State :=
  if s.dly ≠ 0 then { s with dly := s.dly - 1 }
  else { s.showByte (s.memRead (rowAddr s.cfg s.row 0)) with k := 0, ph := 0, seq := .emit }

/-- The sample after sample K: the next pair of CURB, or the first pair of the next byte (R166). -/
def State.nextSample (s : State) : State :=
  if (s.k + 1) % 4 ≠ 0 then { s with k := s.k + 1, ph := 0, color := colorMap (sample s.curb ((s.k + 1) % 4)) }
  else { s.showByte (s.memRead (rowAddr s.cfg s.row ((s.k + 1) / 4))) with k := s.k + 1, ph := 0 }

/-- The last cycle of the last sample (R166, R167). -/
def State.lastEmitCycle (s : State) : Bool :=
  decide (¬ s.ph < s.cfg.cps - 1 ∧ ¬ s.k < s.cfg.samplesPerLine - 1)

/-- An EMIT cycle (R166); the last one of the body takes the end-of-body actions (R167). -/
def State.emitStep (s : State) : State :=
  if s.ph < s.cfg.cps - 1 then { s with ph := s.ph + 1 }
  else if s.k < s.cfg.samplesPerLine - 1 then s.nextSample
  else s.finishLine

/-! ## One cycle (R161) -/

/-- The effect of an accepted host command (R160). The host port carries no VTICK, HTICK or RESET (30_encoding.md R71). -/
def State.performHost (i : Instr) (s : State) : State :=
  match i with
  | .fbwr a d => s.hostWrite a d
  | .fbrd a => s.returnValue (.byte (s.hostRead a))
  | .rdet => s.returnValue (.elapsed s.et)
  | .start => s.startWrites
  | .stop => s.stopWrites
  | .nop => s
  | .vtick => s
  | .htick _ => s
  | .reset => s

/-- Steps 2, 3 and 4 of R161, which are exclusive: the entry actions, or the sequencer step, or the host command.
`none` is TimingViolation(JITTER). -/
def State.cycleBody (p : PinsIn) (s : State) : Option State :=
  match s.entered p with
  | some .vertical => some s.vtickWrites
  | some .horizontal => s.enterHorizontal
  | none =>
    match s.seq with
    | .align => some s.alignStep
    | .emit => some s.emitStep
    | .idle =>
      match s.accepted p with
      | some i => some (s.performHost i)
      | none => some s

/-- An accepted START or STOP overrides the timers and the flags of its cycle (R161 (6), 60_exceptions.md R131). -/
def State.overridden (p : PinsIn) (s : State) : Bool :=
  s.accepted p == some .start || s.accepted p == some .stop

/-- Steps 1 and 5 of R161, computed from `s`, the state at the start of the cycle, and landed in `t`. -/
def State.landTimers (p : PinsIn) (s t : State) : State :=
  { t with hcnt := s.nextHcnt, vcnt := s.nextVcnt, vpend := s.nextVpend p, hpend := s.nextHpend p }

/-- One clock cycle (R161): with rst = 1 RESET and nothing else, a body in progress being abandoned and its record cut short
(42_lifecycle.md R104); otherwise the body, the timers and the flags, all from the
state at the start of the cycle. The outputs of the cycle are observed first; no rule reads them. -/
def cycle (p : PinsIn) (s : State) : Host.Outcome State Fault Refusal :=
  if p.rst then .next (s.observePins p).abandonLine.resetRegisters
  else
    match (s.observePins p).cycleBody p with
    | none => .fault (.timingViolation .jitter)
    | some t =>
      if s.overridden p then .next t
      else if s.lostTick p then .fault (.timingViolation .lostTick)
      else .next (State.landTimers p s t)

/-! ## Reading the events off (R169) -/

/-- The event read off a cycle (R169): an entry, an accepted host command, or the first cycle of a reset. -/
def readOff (prevRst : Bool) (p : PinsIn) (s : State) : Option Instr :=
  if p.rst then (if prevRst then none else some .reset)
  else
    match s.entered p with
    | some .vertical => some .vtick
    | some .horizontal => some (.htick (recordedJitter s.cfg s.hcnt))
    | none => s.accepted p

/-- What the environment owes in one cycle (R172 (a) to (c)): no iack without a request, no horizontal tick left unserved, a
pixel-bearing line entered inside the window. -/
def envOk (p : PinsIn) (s : State) : Bool :=
  p.rst ||
    ((!p.iack || s.vpend || s.hpend) && (!s.lostTick p || s.overridden p) &&
      !(s.entered p == some .horizontal && s.lineCase == .emit &&
        !(decide (s.cfg.entryBase ≤ s.hcnt) && decide (s.hcnt - s.cfg.entryBase < s.cfg.window))))

/-- The context a cycle runs in (60_exceptions.md R137, R138). -/
inductive Context where
  /-- The host port is active and no handler body runs. -/
  | host
  /-- A VTICK is being performed. -/
  | vertical
  /-- An HTICK is being performed. -/
  | horizontal
  /-- RESET, the last column of R138. -/
  | reset
  deriving DecidableEq, Repr

/-- The context an event defines (R137: "A context is entered by the event that defines it"). -/
def contextOf (i : Instr) : Context :=
  match i with
  | .vtick => .vertical
  | .htick _ => .horizontal
  | .reset => .reset
  | .nop => .host
  | .fbwr _ _ => .host
  | .fbrd _ => .host
  | .rdet => .host
  | .start => .host
  | .stop => .host

end Sys2Proof.Machine
end

