-- ==== Sys2Proof/Machine/Horizontal.lean ====
section
/-! DEFINITION. The meaning of HTICK (41_horizontal_handler.md). -/

namespace Sys2Proof.Machine

/-- HTICK j (R84): the SKIP and IDLE cases ignore j (R95); the EMIT case raises TimingViolation(JITTER) when j ≥ W (R87) and
otherwise has the same result for every j (R88). With RUN = 0 it is no step (R84: require RUN = 1). -/
def execHtick (j : Byte) (s : State) : Host.Outcome State Fault Refusal :=
  if s.run then
    match s.lineCase with
    | .skip => .next s.skipLine
    | .idle => .next s.idleLine
    | .emit => if j.toNat < s.cfg.window then .next s.finishLine else .fault (.timingViolation .jitter)
  else .refused .handlerDisarmed

end Sys2Proof.Machine
end

