-- ==== Sys2Proof/Machine/HostAccess.lean ====
section
/-! DEFINITION. The meanings of NOP, FBWR, FBRD and RDET (43_host_access.md). -/

namespace Sys2Proof.Machine

/-- NOP changes no state, returns nothing and emits no record (R107). -/
def execNop (s : State) : Host.Outcome State Fault Refusal := .next s

/-- FBWR addr, data (R108). -/
def execFbwr (addr : Addr) (data : Byte) (s : State) : Host.Outcome State Fault Refusal :=
  .next (s.hostWrite addr data)

/-- FBRD addr (R109). -/
def execFbrd (addr : Addr) (s : State) : Host.Outcome State Fault Refusal :=
  .next (s.returnValue (.byte (s.hostRead addr)))

/-- RDET (R110). -/
def execRdet (s : State) : Host.Outcome State Fault Refusal := .next (s.returnValue (.elapsed s.et))

end Sys2Proof.Machine
end

