-- ==== Sys2Proof/Machine/Lifecycle.lean ====
section
/-! DEFINITION. The meanings of START, STOP and RESET (42_lifecycle.md). -/

namespace Sys2Proof.Machine

/-- START (R100, R101). -/
def execStart (s : State) : Host.Outcome State Fault Refusal := .next s.startWrites

/-- STOP (R102). -/
def execStop (s : State) : Host.Outcome State Fault Refusal := .next s.stopWrites

/-- RESET (R104). -/
def execReset (s : State) : Host.Outcome State Fault Refusal := .next s.resetRegisters

end Sys2Proof.Machine
end

