-- ==== Sys2Proof/Machine/Vertical.lean ====
section
/-! DEFINITION. The meaning of VTICK (40_vertical_handler.md). -/

namespace Sys2Proof.Machine

/-- VTICK (R77); with RUN = 0 it is no step (R81). -/
def execVtick (s : State) : Host.Outcome State Fault Refusal :=
  if s.run then .next s.vtickWrites else .refused .handlerDisarmed

end Sys2Proof.Machine
end

