-- ==== Sys2Proof/Machine/Dispatch.lean ====
section
/-! DEFINITION. One arm per event. -/

namespace Sys2Proof.Machine

def exec (i : Instr) (s : State) : Host.Outcome State Fault Refusal :=
  match i with
  | .nop => Sys2Proof.Machine.execNop s
  | .vtick => Sys2Proof.Machine.execVtick s
  | .htick j => Sys2Proof.Machine.execHtick j s
  | .fbwr addr data => Sys2Proof.Machine.execFbwr addr data s
  | .fbrd addr => Sys2Proof.Machine.execFbrd addr s
  | .rdet => Sys2Proof.Machine.execRdet s
  | .start => Sys2Proof.Machine.execStart s
  | .stop => Sys2Proof.Machine.execStop s
  | .reset => Sys2Proof.Machine.execReset s

end Sys2Proof.Machine
end

