-- ==== Sys2Proof/WellFormed.lean ====
section
/-! DEFINITION. What can be ill formed: a configuration (00_scope.md R12). An event cannot: its operands have the types of
their fields (30_encoding.md R69: an out-of-range address or jitter "is a well-formed event"). A word that spells no event is
refused by the decoder (Decode.lean). -/

namespace Sys2Proof

/-- The event-level conditions of 00_scope.md R12, in its order. -/
abbrev Config.Admissible (c : Config) : Prop :=
  1 ≤ c.visibleLines ∧ 1 ≤ c.bytesPerRow ∧ 1 ≤ c.bytesPerVisibleRow ∧ c.bytesPerVisibleRow ≤ c.bytesPerRow ∧
  1 ≤ c.vscale ∧ 1 ≤ c.frameLines ∧ c.skipLines < c.frameLines ∧ c.skipLines ≤ 2 ^ c.skipW - 1 ∧
  c.visibleLines ≤ 2 ^ c.rowW - 1 ∧ c.vscale ≤ 2 ^ c.repW ∧ c.fbSize ≤ 2 ^ c.addrW ∧ 2 ^ c.addrW ≤ 65536 ∧
  1 ≤ c.window ∧ c.window ≤ 255 ∧ c.ncolor = 2

/-- "For the clocked realisation in addition" (00_scope.md R12); ENTRY_BASE ≥ 0 holds of every natural number. -/
abbrev Config.ClockedAdmissible (c : Config) : Prop :=
  c.Admissible ∧ 1 ≤ c.cps ∧ c.blankStart < c.linePeriod ∧ 0 < c.hsyncWidth ∧ c.hsyncWidth < c.linePeriod ∧
  0 < c.vsyncWidth ∧ c.vsyncWidth < c.frameLines * c.linePeriod

end Sys2Proof
end

