-- ==== Sys2Proof/Machine/Fetch.lean ====
section
/-! DEFINITION. What a step runs next: the head of the trace (10_state.md R34), and the placing of a word there. -/

namespace Sys2Proof.Machine

/-- What the next step is to do. -/
inductive Fetched where
  /-- Perform an event from the given state. -/
  | event (i : Instr) (s : State)
  /-- Run one clock cycle from the given state. -/
  | cycle (p : PinsIn) (s : State)
  /-- No step, for the given reason. -/
  | refuse (r : Refusal)
  deriving DecidableEq, Repr

/-- The head of the trace. An inadmissible configuration is refused (00_scope.md R12, the clocked conditions for a clocked
run); an event trace with a word that spells no event is refused as a whole (30_encoding.md R68); a finished trace has no step. -/
def fetch (s : State) : Fetched :=
  match s.trace with
  | .events words =>
    if s.cfg.Admissible then
      if words.all wordValid then
        match words with
        | [] => .refuse .traceEnded
        | w :: rest =>
          match decode w with
          | .event i => .event i { s with trace := .events rest }
          | .invalid _ => .refuse .invalidWord
      else .refuse .invalidWord
    else .refuse .inadmissibleConfig
  | .cycles pins =>
    if s.cfg.ClockedAdmissible then
      match pins with
      | [] => .refuse .traceEnded
      | p :: rest => .cycle p { s with trace := .cycles rest }
    else .refuse .inadmissibleConfig

/-- The trace of the one word `w` (its low `nbits` bits, every higher bit 0) loaded as the trace to run. -/
def State.loadWord (s : State) (nbits w : Nat) : State :=
  { s with trace := .events [BitVec.ofNat 32 (w % 2 ^ nbits)] }

end Sys2Proof.Machine
end

