-- ==== Sys2Proof/Machine/Step.lean ====
section
/-! DEFINITION. One step: the next event of an event trace, or the next cycle of a clocked run. -/

namespace Sys2Proof.Machine

/-- One step (00_scope.md R3): an event is one atomic transition; a cycle is one clock period. -/
def step (s : State) : Host.Outcome State Fault Refusal :=
  match fetch s with
  | .event i t => exec i t
  | .cycle p t => cycle p t
  | .refuse r => .refused r

/-- The word stored where `step` takes its next event: it becomes the event trace to run (log 3). -/
def State.withFetchWord (s : State) (nbits w : Nat) : State := s.loadWord nbits w

end Sys2Proof.Machine
end

