-- ==== Sys2Proof/Machine/Run.lean ====
section
/-! DEFINITION. Runs: a finite sequence of events (00_scope.md glossary: event trace), a sequence of clock cycles, the events
read off one, and the tick pattern of 60_exceptions.md R142. -/

namespace Sys2Proof.Machine

/-- The events of a trace one after another, stopping at the first fault or refusal. -/
def runEvents (es : List Instr) (s : State) : Host.Outcome State Fault Refusal :=
  match es with
  | [] => .next s
  | e :: rest =>
    match exec e s with
    | .next t => runEvents rest t
    | .fault f => .fault f
    | .refused r => .refused r

/-- The cycles of a clocked run one after another. -/
def runCycles (ps : List PinsIn) (s : State) : Host.Outcome State Fault Refusal :=
  match ps with
  | [] => .next s
  | p :: rest =>
    match cycle p s with
    | .next t => runCycles rest t
    | .fault f => .fault f
    | .refused r => .refused r

/-- The events read off a clocked run, in cycle order (70_reset_and_hazards.md R169). `prevRst` is rst in the cycle before. -/
def readOffRun (prevRst : Bool) (ps : List PinsIn) (s : State) : List Instr :=
  match ps with
  | [] => []
  | p :: rest =>
    match cycle p s with
    | .next t => (readOff prevRst p s).toList ++ readOffRun p.rst rest t
    | .fault _ => []
    | .refused _ => []

/-- The event whose architectural effect lands in a cycle that steps: an entry that ends at once, the last cycle of a body, an
accepted host command, a reset. The writes of a pixel-bearing HTICK land at the end of its body
(70_reset_and_hazards.md R167), with the same result for every jitter in the window (R88). -/
def committed (p : PinsIn) (s : State) : List Instr :=
  if p.rst then [.reset]
  else
    match s.entered p with
    | some .vertical => [.vtick]
    | some .horizontal => if s.lineCase = .emit then [] else [.htick (recordedJitter s.cfg s.hcnt)]
    | none =>
      match s.seq with
      | .idle => (s.accepted p).toList
      | .align => []
      | .emit => if s.lastEmitCycle then [.htick 0] else []

/-- The handler an event invokes, if any (60_exceptions.md R125). -/
def handlerOf (i : Instr) : Option Handler :=
  match i with
  | .vtick => some .vertical
  | .htick _ => some .horizontal
  | .nop => none
  | .fbwr _ _ => none
  | .fbrd _ => none
  | .rdet => none
  | .start => none
  | .stop => none
  | .reset => none

/-- The byte an event stores at an address, if it stores one there (20_memory.md R50, R53). -/
def storedAt (c : Config) (a : Nat) (i : Instr) : Option Byte :=
  match i with
  | .fbwr b d => if b.toNat = a ∧ b.toNat < c.fbSize then some d else none
  | .nop => none
  | .vtick => none
  | .htick _ => none
  | .fbrd _ => none
  | .rdet => none
  | .start => none
  | .stop => none
  | .reset => none

/-- The latest write to an address in a sequence of events (20_memory.md R53). -/
def lastWrite (c : Config) (a : Nat) (es : List Instr) : Option Byte :=
  match es with
  | [] => none
  | e :: rest => (lastWrite c a rest).or (storedAt c a e)

/-- A cycle in which the environment does nothing: NOP on the host port, no acknowledge, no reset. -/
def quietPins : PinsIn := { rst := false, hCmd := 0, hAddr := 0, hWdata := 0, iack := false }

/-- A cycle with the acknowledge and nothing else (60_exceptions.md R129). -/
def ackPins : PinsIn := { quietPins with iack := true }

/-- The environment's part of one line from line phase ENTRY_BASE on: the acknowledge at ENTRY_BASE + j, quiet otherwise, up to
line phase BLANK_START (41_horizontal_handler.md R87). -/
def lineInputs (c : Config) (j : Nat) : List PinsIn :=
  List.replicate j quietPins ++ ackPins :: List.replicate (c.blankStart - c.entryBase - j - 1) quietPins

/-- The handler event at position `n` after a START: FRAME_LINES − 1 HTICKs, then one VTICK and FRAME_LINES HTICKs for as long
as the block runs (60_exceptions.md R142). -/
def tickPattern (c : Config) (n : Nat) : Handler :=
  if n + 1 < c.frameLines then .horizontal
  else if (n + 1 - c.frameLines) % (c.frameLines + 1) = 0 then .vertical
  else .horizontal

/-- The colour at a line phase of samples shown for `cps` cycles each from line phase `start` on, BLANK before and after
(41_horizontal_handler.md R83). -/
def sampleColorAt (start cps : Nat) (samples : List Sample) (phase : Nat) : Sample :=
  if phase < start then blank
  else
    match samples[(phase - start) / cps]? with
    | some c => colorMap c
    | none => blank

/-- The colour a line record shows at a line phase (R83; a record cut short: 42_lifecycle.md R104). -/
def LineRecord.colorAt (r : LineRecord) (phase : Nat) : Sample :=
  match r with
  | .noPixels => blank
  | .pixels start cps samples => sampleColorAt start cps samples phase
  | .cutShort start cps samples stop => if phase < stop then sampleColorAt start cps samples phase else blank

/-- `r` is the record `whole`, or that record cut short: the same line with only its first samples (42_lifecycle.md R104). -/
def LineRecord.CutOf (r whole : LineRecord) : Prop :=
  r = whole ∨ ∃ start cps shown rest stop, r = .cutShort start cps shown stop ∧ whole = .pixels start cps (shown ++ rest)

end Sys2Proof.Machine
end

