-- ==== Sys2Proof/Machine/HostApi.lean ====
section
/-! DEFINITION. The host-side pseudo-operations (43_host_access.md R112 to R119): host programs over FBWR, FBRD and RDET. They have
no existence in the block (R112). -/

namespace Sys2Proof.Machine

/-- A host program: a sequence of FBWR, FBRD and RDET events, later ones depending on the values returned (R112). -/
inductive HostProg where
  /-- The program ends with a result. -/
  | done (result : Nat)
  /-- `FBWR addr, data`. -/
  | fbwr (addr : Addr) (data : Byte) (next : HostProg)
  /-- `v := FBRD addr`. -/
  | fbrd (addr : Addr) (next : Byte → HostProg)
  /-- `t := RDET`. -/
  | rdet (next : Nat → HostProg)

/-- A host program run from a state. `gaps` gives the handler events that fall before each of its events, in order; none where
the list is at its end (R112: "HTICKs and VTICKs may fall between any two of its events"). The answer is the state and the
program's result. -/
def HostProg.run (p : HostProg) (gaps : List (List Instr)) (s : State) : Host.Outcome (State × Nat) Fault Refusal :=
  match p with
  | .done v => .next (s, v)
  | .fbwr a d next =>
    match runEvents (gaps.headD [] ++ [.fbwr a d]) s with
    | .next t => next.run gaps.tail t
    | .fault f => .fault f
    | .refused r => .refused r
  | .fbrd a next =>
    match runEvents (gaps.headD [] ++ [.fbrd a]) s with
    | .next t => (next (t.hostRead a)).run gaps.tail t
    | .fault f => .fault f
    | .refused r => .refused r
  | .rdet next =>
    match runEvents (gaps.headD [] ++ [.rdet]) s with
    | .next t => (next t.et).run gaps.tail t
    | .fault f => .fault f
    | .refused r => .refused r

/-- The operands of a pixel operation are in bounds (R113, R118). -/
abbrev pixelInBounds (c : Config) (x y col : Nat) : Prop := x < c.width ∧ y < c.height ∧ col ≤ 3

/-- `SETPIXEL x, y, col`, then `next` (R113); out of bounds it is empty (R118). -/
def setPixelThen (c : Config) (x y col : Nat) (next : HostProg) : HostProg :=
  if pixelInBounds c x y col then
    .fbrd (BitVec.ofNat 16 (pixelAddr c x y)) fun v =>
      .fbwr (BitVec.ofNat 16 (pixelAddr c x y)) (setSample v (pixelPos x) (BitVec.ofNat 2 col)) next
  else next

/-- `SETPIXEL x, y, col` (R113). -/
def setPixel (c : Config) (x y col : Nat) : HostProg := setPixelThen c x y col (.done 0)

/-- `GETPIXEL x, y` (R114); out of bounds it is empty and returns 0 (R118). -/
def getPixel (c : Config) (x y : Nat) : HostProg :=
  if pixelInBounds c x y 0 then
    .fbrd (BitVec.ofNat 16 (pixelAddr c x y)) fun v => .done (sample v (pixelPos x)).toNat
  else .done 0

/-- The stored value of pixel (x, y): "reading the coordinate back through the packed representation" (R114, 20_memory.md R42). -/
def State.pixelAt (s : State) (x y : Nat) : Sample := sample (s.memRead (pixelAddr s.cfg x y)) (pixelPos x)

/-- The bytes written at addresses `a`, `a + 1`, ... in ascending order, then `next`. -/
def writeBytesThen (a : Nat) (bytes : List Byte) (next : HostProg) : HostProg :=
  match bytes with
  | [] => next
  | b :: rest => .fbwr (BitVec.ofNat 16 a) b (writeBytesThen (a + 1) rest next)

/-- `CLEAR col`: FBWR a, col × 0x55 for a = 0 to FB_SIZE − 1, ascending (R115). -/
def clearScreen (c : Config) (col : Sample) : HostProg :=
  writeBytesThen 0 (List.replicate c.fbSize (fillByte col)) (.done 0)

/-- `COPY src`: FBWR a, src[a] for a = 0 to FB_SIZE − 1, ascending (R116); `src` has FB_SIZE bytes. -/
def copyScreen (src : List Byte) : HostProg := writeBytesThen 0 src (.done 0)

/-- SETPIXEL for each listed pixel, in order. -/
def setPixels (c : Config) (col : Nat) (pixels : List (Nat × Nat)) : HostProg :=
  match pixels with
  | [] => .done 0
  | (x, y) :: rest => setPixelThen c x y col (setPixels c col rest)

/-- The pixels of a rectangle clipped to the bounds, rows outer and columns inner, both ascending (R117). -/
def rectPixels (c : Config) (x y w h : Nat) : List (Nat × Nat) :=
  (List.range (min (y + h) c.height - y)).flatMap fun dy =>
    (List.range (min (x + w) c.width - x)).map fun dx => (x + dx, y + dy)

/-- `FILLRECT x, y, w, h, col` (R117). -/
def fillRect (c : Config) (x y w h col : Nat) : HostProg := setPixels c col (rectPixels c x y w h)

/-- `ELAPSED_MICROS`: t × FRAME_PERIOD_US (R119); the frame period in microseconds is a host-side constant. -/
def elapsedMicros (framePeriodUs : Nat) : HostProg := .rdet fun t => .done (t * framePeriodUs)

/-- `ELAPSED_MILLIS`: (t × FRAME_PERIOD_US) div 1000 (R119). -/
def elapsedMillis (framePeriodUs : Nat) : HostProg := .rdet fun t => .done (t * framePeriodUs / 1000)

end Sys2Proof.Machine
end

