-- ==== Sys2Proof/Machine/TraceText.lean ====
section
/-! DEFINITION. The trace syntax (30_encoding.md R73): one event per line. Text is a list of characters. What R73 leaves open
(spaces, leading zeros, the case of hexadecimal digits, empty lines) is log 18. -/

namespace Sys2Proof.Machine

/-- The digits of `n` in base `b`, most significant first; `fuel` bounds their number. -/
def digitsOf (b fuel n : Nat) : List Nat :=
  match fuel with
  | 0 => []
  | fuel + 1 => if n < b then [n] else digitsOf b fuel (n / b) ++ [n % b]

/-- The character of a digit, capitals above 9. -/
def digitChar (d : Nat) : Char := if d < 10 then Char.ofNat (48 + d) else Char.ofNat (55 + d)

/-- The value of a digit in base `b`, if the character is one. -/
def digitValue (b : Nat) (ch : Char) : Option Nat :=
  let n := ch.toNat
  let v := if 48 ≤ n ∧ n ≤ 57 then some (n - 48) else if 65 ≤ n ∧ n ≤ 70 then some (n - 55)
    else if 97 ≤ n ∧ n ≤ 102 then some (n - 87) else none
  match v with
  | some d => if d < b then some d else none
  | none => none

/-- The number spelled by digits in base `b`, given the value of the digits before them. -/
def digitsValue (b acc : Nat) (text : List Char) : Option Nat :=
  match text with
  | [] => some acc
  | ch :: rest =>
    match digitValue b ch with
    | some d => digitsValue b (acc * b + d) rest
    | none => none

/-- A decimal number, at least one digit. -/
def parseDec (text : List Char) : Option Nat := if text = [] then none else digitsValue 10 0 text

/-- A number written with `0x` and at least one hexadecimal digit. -/
def parseHex (text : List Char) : Option Nat :=
  match text with
  | '0' :: 'x' :: rest => if rest = [] then none else digitsValue 16 0 rest
  | _ => none

/-- An address: decimal or `0x` hexadecimal (R73). -/
def parseAddr (text : List Char) : Option Addr :=
  match (parseHex text).or (parseDec text) with
  | some n => if n < 65536 then some (BitVec.ofNat 16 n) else none
  | none => none

/-- A byte from a number that fits it. -/
def parsedByte (n : Option Nat) : Option Byte :=
  match n with
  | some v => if v < 256 then some (BitVec.ofNat 8 v) else none
  | none => none

/-- The text before a comment: from `;` to the end of the line is dropped (R73). -/
def dropComment (text : List Char) : List Char := text.takeWhile (fun ch => ch ≠ ';')

/-- The text without the spaces around it. -/
def trimSpaces (text : List Char) : List Char :=
  ((text.dropWhile (fun ch => ch = ' ')).reverse.dropWhile (fun ch => ch = ' ')).reverse

/-- The operands: the parts between commas, trimmed. -/
def splitCommas (part text : List Char) : List (List Char) :=
  match text with
  | [] => [trimSpaces part]
  | ch :: rest => if ch = ',' then trimSpaces part :: splitCommas [] rest else splitCommas (part ++ [ch]) rest

/-- The event of a mnemonic and its operands (R73); `none` when they spell none. -/
def parseEvent (mnemonic : List Char) (operands : List (List Char)) : Option Instr :=
  match String.ofList mnemonic, operands with
  | "NOP", [[]] => some .nop
  | "VTICK", [[]] => some .vtick
  | "HTICK", [j] => (parsedByte (parseDec j)).map .htick
  | "FBWR", [a, d] => (parseAddr a).bind fun addr => (parsedByte (parseHex d)).map fun data => .fbwr addr data
  | "FBRD", [a] => (parseAddr a).map .fbrd
  | "RDET", [[]] => some .rdet
  | "START", [[]] => some .start
  | "STOP", [[]] => some .stop
  | "RESET", [[]] => some .reset
  | _, _ => none

/-- One line of a trace: `some none` is a line that holds no event, `none` a line that spells none. -/
def parseLine (line : List Char) : Option (Option Instr) :=
  let text := trimSpaces (dropComment line)
  if text = [] then some none
  else
    match parseEvent (text.takeWhile (fun ch => ch ≠ ' ')) (splitCommas [] (text.dropWhile (fun ch => ch ≠ ' '))) with
    | some i => some (some i)
    | none => none

/-- The lines of a text. -/
def splitLines (line text : List Char) : List (List Char) :=
  match text with
  | [] => [line]
  | ch :: rest => if ch = '\n' then line :: splitLines [] rest else splitLines (line ++ [ch]) rest

/-- The events of a list of lines; one line that spells no event refuses the whole text, as one word does a trace (R68). -/
def parseLines (lines : List (List Char)) : Option (List Instr) :=
  match lines with
  | [] => some []
  | line :: rest =>
    match parseLine line, parseLines rest with
    | some e, some es => some (e.toList ++ es)
    | _, _ => none

/-- The event trace a text spells (R73). -/
def parseTrace (text : List Char) : Option (List Instr) := parseLines (splitLines [] text)

/-- A number in decimal. -/
def decText (n : Nat) : List Char := (digitsOf 10 8 n).map digitChar

/-- A number in hexadecimal, after `0x`. -/
def hexText (n : Nat) : List Char := '0' :: 'x' :: (digitsOf 16 8 n).map digitChar

/-- The line that spells an event (R73): j and addresses decimal, data hexadecimal. -/
def eventText (i : Instr) : List Char :=
  match i with
  | .nop => ['N', 'O', 'P']
  | .vtick => ['V', 'T', 'I', 'C', 'K']
  | .htick j => ['H', 'T', 'I', 'C', 'K', ' '] ++ decText j.toNat
  | .fbwr a d => ['F', 'B', 'W', 'R', ' '] ++ decText a.toNat ++ [',', ' '] ++ hexText d.toNat
  | .fbrd a => ['F', 'B', 'R', 'D', ' '] ++ decText a.toNat
  | .rdet => ['R', 'D', 'E', 'T']
  | .start => ['S', 'T', 'A', 'R', 'T']
  | .stop => ['S', 'T', 'O', 'P']
  | .reset => ['R', 'E', 'S', 'E', 'T']

end Sys2Proof.Machine
end

