-- ==== Sys2Proof/Safety.lean ====
section
/-! DEFINITION. What a claim means by a good state: the bounds of 10_state.md R22 and the invariant of both levels; what the
architectural state is (R15). -/

namespace Sys2Proof.Machine

/-- The bounds of 10_state.md R22: "VSKIP ≤ SKIP_LINES; ROW ≤ VISIBLE_LINES; REP < VSCALE". -/
def State.InBounds (s : State) : Prop :=
  s.vskip ≤ s.cfg.skipLines ∧ s.row ≤ s.cfg.visibleLines ∧ s.rep < s.cfg.vscale

/-- The registers with a wrap fit their width (00_scope.md R11). -/
def State.FitsWidths (s : State) : Prop := s.aline < 2 ^ s.cfg.alineW ∧ s.et < 2 ^ s.cfg.etW

/-- The framebuffer list is canonical and lists only framebuffer addresses (20_memory.md R39). -/
def State.FramebufferOk (s : State) : Prop :=
  s.fb.wf = true ∧ ∀ a, (s.fb.read a).isSome = true → a < s.cfg.fbSize

/-- With the sequencer idle the colour output is BLANK (10_state.md R29). -/
def State.IdleIsBlank (s : State) : Prop := s.seq = .idle → s.color = blank

/-- While RUN = 0 nothing is pending and no body runs (60_exceptions.md R148). -/
def State.StoppedIsQuiet (s : State) : Prop := s.run = false → s.vpend = false ∧ s.hpend = false ∧ s.seq = .idle

/-- The timer counters are in range and in step (60_exceptions.md R139, R140, R141). -/
def State.TimersInStep (s : State) : Prop :=
  s.hcnt < s.cfg.linePeriod ∧ s.vcnt < s.cfg.framePeriod ∧ s.vcnt % s.cfg.linePeriod = s.hcnt

/-- While a body runs the line is pixel-bearing (70_reset_and_hazards.md R164). -/
def State.BodyIsPixelBearing (s : State) : Prop := s.seq ≠ .idle → s.lineCase = .emit

/-- ALIGN: the delay still to run ends at the read cycle ENTRY_BASE + W; the output is BLANK (R165). -/
def State.AlignOnPhase (s : State) : Prop :=
  s.seq = .align → s.dly < s.cfg.window ∧ s.hcnt + s.dly = s.cfg.entryBase + s.cfg.window ∧ s.color = blank

/-- EMIT: sample K is on the output at line phase EMIT_START + K × CPS + PH, taken from byte K div 4 of row ROW (R166). -/
def State.EmitOnPhase (s : State) : Prop :=
  s.seq = .emit →
    s.k < s.cfg.samplesPerLine ∧ s.ph < s.cfg.cps ∧ s.hcnt = s.cfg.emitStart + s.k * s.cfg.cps + s.ph ∧
    s.curb = s.memRead (rowAddr s.cfg s.row (s.k / 4)) ∧ s.color = colorMap (sample s.curb (s.k % 4))

/-- The event level never has a body running (10_state.md R27). -/
def State.EventsAreAtomic (s : State) : Prop :=
  match s.trace with
  | .events _ => s.seq = .idle
  | .cycles _ => True

/-- What every step keeps. The clauses about the clocked realisation are asked of a configuration that admits it. -/
structure State.Inv (s : State) : Prop where
  admissible : s.cfg.Admissible
  bounds : s.InBounds
  widths : s.FitsWidths
  framebuffer : s.FramebufferOk
  idleBlank : s.IdleIsBlank
  stopped : s.StoppedIsQuiet
  pixelBearing : s.BodyIsPixelBearing
  timers : s.cfg.ClockedAdmissible → s.TimersInStep
  align : s.AlignOnPhase
  emit : s.EmitOnPhase
  events : s.EventsAreAtomic

/-- The same architectural state (10_state.md R15: FB, the line counters, ET, RUN) in the same configuration. -/
def State.SameArch (s t : State) : Prop :=
  s.cfg = t.cfg ∧ s.vskip = t.vskip ∧ s.aline = t.aline ∧ s.row = t.row ∧ s.rep = t.rep ∧ s.et = t.et ∧ s.run = t.run ∧
  s.fb = t.fb

/-- A run that has met no timing violation (60_exceptions.md R124: a faulted run is never counted as finished). -/
def noFault (o : Host.Outcome State Fault Refusal) : Bool :=
  match o with
  | .next _ => true
  | .fault _ => false
  | .refused _ => true

end Sys2Proof.Machine
end

