-- ==== Sys2Proof/Certificates/Slice0/Obligations.lean ====
section
/-! DEFINITION. The statements for the provers. -/

open Sys2Proof Sys2Proof.Machine

/-! ## Encoding (30_encoding.md) -/

/-- An inference of the spec (30_encoding.md R76, from R66 and R67): "Encoding then decoding an event returns the same event, and decoding then encoding a valid word
returns the same word". The decoder is total because it is a function. -/
def Obligations.DecodeEncodeRoundTrip : Prop :=
  (∀ (i : Instr), decode (encode i) = .event i) ∧ ∀ (w : EventWord) (i : Instr), decode w = .event i → encode i = w

/-- 30_encoding.md R66: a word spells the event of a row when `w & mask = match`, its operands the fields of R64; at most one
row matches. -/
def Obligations.DecodeFollowsOpcodeTable : Prop :=
  (∀ (w : EventWord) (i : Instr), decode w = .event i ↔ w &&& rowMask i = rowMatch i ∧ operandsFrom w i) ∧
  ∀ (w : EventWord) (i : Instr) (j : Instr), w &&& rowMask i = rowMatch i → w &&& rowMask j = rowMatch j → rowMatch i = rowMatch j

/-- 30_encoding.md R67, R68: reserved operation codes and nonzero unused fields spell no event, and a trace that contains such a
word is refused as a whole. -/
def Obligations.InvalidWordsRefuseTheTrace : Prop :=
  (∀ (w : EventWord), 8 ≤ (opField w).toNat → (opField w).toNat ≤ 14 → wordValid w = false) ∧
  (∀ (w : EventWord), zField w ≠ 0 → wordValid w = false) ∧
  (∀ (w : EventWord), aField w ≠ 0 → (opField w).toNat ≠ 3 → (opField w).toNat ≠ 4 → wordValid w = false) ∧
  (∀ (w : EventWord), dField w ≠ 0 → (opField w).toNat ≠ 2 → (opField w).toNat ≠ 3 → wordValid w = false) ∧
  ∀ (s : State) (words : List EventWord) (w : EventWord), s.cfg.Admissible → s.trace = .events words → w ∈ words → wordValid w = false →
    step s = .refused .invalidWord

/-- 95_test_vectors.md family I: words written out in the spec decode to their events. -/
def Obligations.SpecWordsDecode : Prop :=
  decode 0x00000000#32 = .event .nop ∧ decode 0x10000000#32 = .event .vtick ∧
  decode 0x200000FF#32 = .event (.htick 255#8) ∧ decode 0x3000011B#32 = .event (.fbwr 1#16 0x1B#8) ∧
  decode 0x40003100#32 = .event (.fbrd 49#16) ∧ decode 0x50000000#32 = .event .rdet ∧
  decode 0x60000000#32 = .event .start ∧ decode 0x70000000#32 = .event .stop ∧ decode 0xF0000000#32 = .event .reset

/-! ## The step -/

/-- 00_scope.md R3: an event is one atomic transition. A step of an event trace is exec of the event its first word spells, with
the rest of the trace left to come. -/
def Obligations.StepRunsDecodedEvent : Prop :=
  ∀ (s : State) (w : EventWord) (rest : List EventWord) (i : Instr), s.cfg.Admissible → s.trace = .events (w :: rest) → rest.all wordValid = true → decode w = .event i →
    step s = exec i { s with trace := .events rest }

/-- 00_scope.md R3, 70_reset_and_hazards.md R161: a step of a clocked run is one cycle with the first of the input ports still to
come. -/
def Obligations.StepRunsClockCycle : Prop :=
  ∀ (s : State) (p : PinsIn) (rest : List PinsIn), s.cfg.ClockedAdmissible → s.trace = .cycles (p :: rest) →
    step s = cycle p { s with trace := .cycles rest }

/-- 00_scope.md R12: "the model refuses any other configuration"; the clocked conditions are asked of a clocked run. That the
refusal comes at the step is the model's (log 9). -/
def Obligations.StepRefusesInadmissibleConfiguration : Prop :=
  (∀ (s : State), ¬ s.cfg.Admissible → step s = .refused .inadmissibleConfig) ∧
  ∀ (s : State) (pins : List PinsIn), ¬ s.cfg.ClockedAdmissible → s.trace = .cycles pins → step s = .refused .inadmissibleConfig

/-- 10_state.md R24: no event changes the configuration. That State carries it is the model's (log 1). -/
def Obligations.StepKeepsConfiguration : Prop :=
  ∀ (s : State) (t : State), step s = .next t → t.cfg = s.cfg

/-! ## VTICK (40_vertical_handler.md) -/

/-- R77: the five writes of VTICK; it "writes nothing else". R78: total for every state with RUN = 1, no line record, no value
returned, framebuffer, COLOR, HSYNC, VSYNC and RUN as before. -/
def Obligations.VtickResult : Prop :=
  ∀ (s : State), s.run = true → ∃ t, exec .vtick s = .next t ∧
    t = { s with
      aline := 2 ^ s.cfg.alineW - 1
      vskip := s.cfg.skipLines
      rep := 0
      row := 0
      et := (s.et + 1) % 2 ^ s.cfg.etW } ∧
    (∀ (a : Nat), t.memRead a = s.memRead a) ∧ t.hsync = s.hsync ∧ t.vsync = s.vsync

/-- R81 and 41_horizontal_handler.md R84 (require RUN = 1): with RUN = 0 neither handler event is a step. -/
def Obligations.HandlerEventsNeedRun : Prop :=
  ∀ (s : State) (j : Byte), s.run = false → exec .vtick s = .refused .handlerDisarmed ∧ exec (.htick j) s = .refused .handlerDisarmed

/-- An inference of the spec (R80, from R77): after n VTICKs from a state with ET = e and no RESET between, ET = (e + n) mod 2^ET_W. -/
def Obligations.ElapsedCounterCountsVticks : Prop :=
  ∀ (es : List Instr) (s : State) (t : State), s.et < 2 ^ s.cfg.etW → Instr.reset ∉ es → runEvents es s = .next t →
    t.et = (s.et + es.count .vtick) % 2 ^ s.cfg.etW

/-! ## HTICK (41_horizontal_handler.md) -/

/-- R85: the SKIP case, for every jitter. -/
def Obligations.HtickSkipLine : Prop :=
  ∀ (s : State) (j : Byte), s.run = true → s.vskip ≠ 0 →
    exec (.htick j) s = .next { s with vskip := s.vskip - 1, records := s.records ++ [.noPixels] }

/-- R94: the IDLE case "emits NoPixels and changes no state at all", for every jitter. -/
def Obligations.HtickIdleLine : Prop :=
  ∀ (s : State) (j : Byte), s.run = true → s.vskip = 0 → s.cfg.visibleLines ≤ s.row →
    exec (.htick j) s = .next { s with records := s.records ++ [.noPixels] }

/-- R86, R89, R92, R93: the EMIT case with the jitter in the window. It emits one record of 4 × BPV samples, sample n taken from
byte n div 4 of row ROW; ALINE, REP and ROW advance; every other field but COLOR and SEQ is as before. That DLY, K, PH and CURB
are among those is the model's event-level reading (log 10). -/
def Obligations.HtickEmitLine : Prop :=
  ∀ (s : State) (j : Byte), s.run = true → s.vskip = 0 → s.row < s.cfg.visibleLines → j.toNat < s.cfg.window →
    ∃ (samples : List Sample) (t : State), exec (.htick j) s = .next t ∧
      t = { s with
        aline := (s.aline + 1) % 2 ^ s.cfg.alineW
        rep := if s.rep + 1 = s.cfg.vscale then 0 else (s.rep + 1) % 2 ^ s.cfg.repW
        row := if s.rep + 1 = s.cfg.vscale then s.row + 1 else s.row
        color := t.color
        seq := t.seq
        records := s.records ++ [.pixels s.cfg.emitStart s.cfg.cps samples] } ∧
      samples.length = 4 * s.cfg.bytesPerVisibleRow ∧
      ∀ n, n < 4 * s.cfg.bytesPerVisibleRow →
        samples[n]? = some (sample (s.memRead (s.row * s.cfg.bytesPerRow + n / 4)) (n % 4))

/-- The model's event-level reading (log 10): a pixel-bearing HTICK leaves COLOR at BLANK, as at the end of its body
(70_reset_and_hazards.md R167), and SEQ at IDLE, whatever they were. -/
def Obligations.EmitLineLeavesOutputBlank : Prop :=
  ∀ (s : State) (j : Byte), s.run = true → s.vskip = 0 → s.row < s.cfg.visibleLines → j.toNat < s.cfg.window →
    ∃ t, exec (.htick j) s = .next t ∧ t.color = blank ∧ t.seq = .idle

/-- R87: on a pixel-bearing line a jitter outside the window is TimingViolation(JITTER). -/
def Obligations.HtickJitterFault : Prop :=
  ∀ (s : State) (j : Byte), s.run = true → s.vskip = 0 → s.row < s.cfg.visibleLines → s.cfg.window ≤ j.toNat →
    exec (.htick j) s = .fault (.timingViolation .jitter)

/-- Two inferences of the spec. R95 (from R84, R87): a skip or idle HTICK has the same result for every j and raises no fault.
R88 (d) (from R87): two jitters inside the window give the same result. -/
def Obligations.JitterDoesNotChangeTheResult : Prop :=
  (∀ (s : State) (i : Byte) (j : Byte), s.lineCase ≠ .emit →
    exec (.htick i) s = exec (.htick j) s ∧ ∀ f, exec (.htick i) s ≠ .fault f) ∧
  ∀ (s : State) (i : Byte) (j : Byte), i.toNat < s.cfg.window → j.toNat < s.cfg.window → exec (.htick i) s = exec (.htick j) s

/-- R87, and the spec's inference R88 (a) to (c) from it: the alignment brings the first sample to EMIT_START for every entry phase in the window. -/
def Obligations.AlignmentReachesEmitStart : Prop :=
  ∀ (c : Config) (j : Nat), j < c.window →
    j + alignDelay c j = c.window - 1 ∧ c.entryBase + j + 1 + alignDelay c j + 1 = c.emitStart

/-- R83: "Each HTICK appends exactly one record to the output trace"; no other event appends one (10_state.md R32 (a),
40_vertical_handler.md R78, 42_lifecycle.md R105, 43_host_access.md R107 to R110). That RESET keeps the records so far is the
model's (log 7). -/
def Obligations.EachHtickAppendsOneRecord : Prop :=
  ∀ (i : Instr) (s : State) (t : State), exec i s = .next t →
    (handlerOf i = some .horizontal → ∃ r, t.records = s.records ++ [r]) ∧
    (handlerOf i ≠ some .horizontal → t.records = s.records)

/-- An inference of the spec (R98, R99, from R84 to R94): a run of n HTICKs with in-window jitters from the start of a frame: the first S emit nothing, then
m = min(n − S, VL × V) pixel-bearing ones, the i-th reading row i div V, then idle ones. -/
def Obligations.FrameLinesFollowRowSelection : Prop :=
  ∀ (s : State) (js : List Byte), s.cfg.Admissible → s.run = true → s.vskip = s.cfg.skipLines → s.row = 0 → s.rep = 0 →
    s.aline = s.cfg.alineSentinel → (∀ j ∈ js, j.toNat < s.cfg.window) →
    ∃ t, runEvents (js.map .htick) s = .next t ∧
      ∀ m, m = min (js.length - s.cfg.skipLines) (s.cfg.visibleLines * s.cfg.vscale) →
        t.vskip = s.cfg.skipLines - js.length ∧ t.row = m / s.cfg.vscale ∧ t.rep = m % s.cfg.vscale ∧
        t.aline = (s.cfg.alineSentinel + m) % 2 ^ s.cfg.alineW ∧ t.et = s.et ∧ t.run = true ∧ t.fb = s.fb ∧
        t.records = s.records ++ List.replicate (min js.length s.cfg.skipLines) .noPixels ++
          (List.range m).map (fun i => ({ s with row := i / s.cfg.vscale } : State).lineRecord) ++
          List.replicate (js.length - s.cfg.skipLines - m) .noPixels

/-! ## The framebuffer (20_memory.md) and host access (43_host_access.md) -/

/-- R107: NOP changes no state, returns nothing and emits no record. -/
def Obligations.NopChangesNothing : Prop :=
  ∀ (s : State), exec .nop s = .next s

/-- R108, 20_memory.md R50: below FB_SIZE the byte at the address becomes the data, every other byte and every other field is
as before; from FB_SIZE on nothing changes. -/
def Obligations.FbwrStoresOneByte : Prop :=
  (∀ (s : State) (a : Addr) (d : Byte), a.toNat < s.cfg.fbSize → ∃ t, exec (.fbwr a d) s = .next t ∧
    t = { s with fb := t.fb } ∧ t.memRead a.toNat = d ∧ ∀ b, b ≠ a.toNat → t.memRead b = s.memRead b) ∧
  ∀ (s : State) (a : Addr) (d : Byte), s.cfg.fbSize ≤ a.toNat → exec (.fbwr a d) s = .next s

/-- R109: FBRD returns the byte below FB_SIZE, 0x00 from there on, and changes no state. -/
def Obligations.FbrdReturnsOneByte : Prop :=
  ∀ (s : State) (a : Addr), exec (.fbrd a) s =
    .next { s with returned := s.returned ++ [.byte (if a.toNat < s.cfg.fbSize then s.memRead a.toNat else 0)] }

/-- R110: RDET returns ET, with RUN = 0 or 1, and changes no state. -/
def Obligations.RdetReturnsElapsedCounter : Prop :=
  ∀ (s : State), exec .rdet s = .next { s with returned := s.returned ++ [.elapsed s.et] }

/-- R47, R108: FBWR is the only event that changes the framebuffer: after every other event every byte reads as before. -/
def Obligations.OnlyFbwrChangesFramebuffer : Prop :=
  ∀ (i : Instr) (s : State) (t : State), exec i s = .next t → (∀ (a : Addr) (d : Byte), i ≠ .fbwr a d) → ∀ (a : Nat), t.memRead a = s.memRead a

/-- R53: after any run of events a byte reads as the latest write to it in the run, or as before the run if there is none. -/
def Obligations.ReadsReturnTheLatestWrite : Prop :=
  ∀ (es : List Instr) (s : State) (t : State) (a : Nat), runEvents es s = .next t → t.memRead a = (lastWrite s.cfg a es).getD (s.memRead a)

/-- An inference of the spec (R51, from R12, R40, R86): the addresses a pixel-bearing HTICK reads lie in the framebuffer and fit ADDR_W bits. -/
def Obligations.RowAddressesLieInFramebuffer : Prop :=
  ∀ (s : State) (i : Nat), s.cfg.Admissible → s.lineCase = .emit → i < s.cfg.bytesPerVisibleRow →
    s.row * s.cfg.bytesPerRow ≤ s.cfg.fbSize - s.cfg.bytesPerRow ∧
    rowAddr s.cfg s.row i < s.cfg.fbSize ∧ rowAddr s.cfg s.row i < 2 ^ s.cfg.addrW

/-- 60_exceptions.md R138: who may write what, context by context; what the table does not list is as before. -/
def Obligations.ContextsWriteOnlyTheirState : Prop :=
  (∀ (i : Instr) (s : State) (t : State), contextOf i = .host → exec i s = .next t →
    t.vskip = s.vskip ∧ t.aline = s.aline ∧ t.row = s.row ∧ t.rep = s.rep ∧ t.et = s.et ∧
    (t.run ≠ s.run → i = .start ∨ i = .stop) ∧ (t.color ≠ s.color → i = .start ∧ t.color = blank)) ∧
  (∀ (i : Instr) (s : State) (t : State), contextOf i = .vertical → exec i s = .next t →
    t.fb = s.fb ∧ t.run = s.run ∧ t.color = s.color) ∧
  (∀ (i : Instr) (s : State) (t : State), contextOf i = .horizontal → exec i s = .next t →
    t.fb = s.fb ∧ t.run = s.run ∧ t.et = s.et ∧
    (s.lineCase ≠ .skip → t.vskip = s.vskip) ∧ (s.lineCase ≠ .emit → t.aline = s.aline ∧ t.row = s.row ∧ t.rep = s.rep ∧ t.color = s.color)) ∧
  ∀ (i : Instr) (s : State) (t : State), contextOf i = .reset → exec i s = .next t → t.fb = s.fb

/-! ## Lifecycle (42_lifecycle.md) -/

/-- R100, R101: START sets RUN, zeroes both timer counters, clears the pending flags, sets COLOR to BLANK, with RUN = 0 or 1, and
changes nothing else. -/
def Obligations.StartArmsBothHandlers : Prop :=
  ∀ (s : State), exec .start s =
    .next { s with run := true, hcnt := 0, vcnt := 0, vpend := false, hpend := false, color := 0#2 }

/-- R102: STOP clears RUN and the pending flags and changes nothing else; the sync lines go to their deasserted levels; no
handler event is a step after it. -/
def Obligations.StopDisarmsBothHandlers : Prop :=
  ∀ (s : State), ∃ t, exec .stop s = .next t ∧ t = { s with run := false, vpend := false, hpend := false } ∧
    t.hsync = (!s.cfg.hsyncPol) ∧ t.vsync = (!s.cfg.vsyncPol) ∧
    exec .vtick t = .refused .handlerDisarmed ∧ ∀ (j : Byte), exec (.htick j) t = .refused .handlerDisarmed

/-- 10_state.md R35: the state after RESET, register by register; every framebuffer byte reads as before (R104). -/
def Obligations.ResetRestoresEveryRegister : Prop :=
  ∀ (s : State), ∃ t, exec .reset s = .next t ∧
    t.vskip = s.cfg.skipLines ∧ t.aline = 2 ^ s.cfg.alineW - 1 ∧ t.row = 0 ∧ t.rep = 0 ∧ t.et = 0 ∧ t.run = false ∧
    t.vpend = false ∧ t.hpend = false ∧ t.hcnt = 0 ∧ t.vcnt = 0 ∧ t.seq = .idle ∧ t.dly = 0 ∧ t.k = 0 ∧ t.ph = 0 ∧
    t.curb = 0 ∧ t.color = 0#2 ∧ t.hsync = (!s.cfg.hsyncPol) ∧ t.vsync = (!s.cfg.vsyncPol) ∧
    ∀ (a : Nat), t.memRead a = s.memRead a

/-- The model's own fields (observation, configuration, free-value counter, input; log 1, 3, 6, 7) and the framebuffer are no
registers: RESET leaves them. -/
def Obligations.ResetKeepsWhatIsNoRegister : Prop :=
  ∀ (s : State), ∃ t, exec .reset s = .next t ∧ t.cfg = s.cfg ∧ t.fb = s.fb ∧ t.records = s.records ∧
    t.returned = s.returned ∧ t.pins = s.pins ∧ t.draws = s.draws ∧ t.trace = s.trace

/-! ## Invariants -/

/-- An inference of the spec (10_state.md R22, from R17, R19, R20, R77, R84): from the reset state, and after every event, VSKIP ≤ SKIP_LINES, ROW ≤ VISIBLE_LINES and REP < VSCALE; and the
rules of the horizontal handler give a result for every value the registers can hold. -/
def Obligations.CounterBoundsHoldAfterEveryEvent : Prop :=
  (∀ c : Config, c.Admissible → (State.resetOf c).InBounds) ∧
  (∀ (i : Instr) (s : State) (t : State), s.cfg.Admissible → s.InBounds → exec i s = .next t → t.InBounds) ∧
  ∀ (s : State) (j : Byte), s.run = true → j.toNat < s.cfg.window → ∃ t, exec (.htick j) s = .next t

/-- Every step, of an event trace or of a clocked run, keeps the invariant of Safety.lean. -/
def Obligations.StepKeepsInvariant : Prop :=
  ∀ (s : State) (t : State), s.Inv → step s = .next t → t.Inv

/-- The invariant holds at reset, in TINY (log 2) and in every admissible configuration. -/
def Obligations.ResetMeetsInvariant : Prop :=
  State.reset.Inv ∧ ∀ c : Config, c.Admissible → (State.resetOf c).Inv

/-! ## The clocked realisation (60_exceptions.md, 70_reset_and_hazards.md) -/

/-- R161: with rst = 1 RESET and nothing else, whatever is in progress. A body in progress leaves its line record, cut short
(42_lifecycle.md R104; the form of that record is log 13); the outputs are observed from the state at the start (log 14). -/
def Obligations.ResetPinOverridesEverything : Prop :=
  ∀ (p : PinsIn) (s : State), p.rst = true → ∃ t u, cycle p s = .next t ∧ exec .reset s = .next u ∧
    t = { u with records := s.records ++ s.cutRecord.toList, pins := t.pins, draws := t.draws } ∧
    t.pins = s.pins ++ [s.portsOut p]

/-- 42_lifecycle.md R104: with rst = 1 during a body "the body is abandoned, COLOR goes to BLANK at once, and the line record of
the abandoned line is cut short": one record is appended that shows what the line record shows up to this line phase and
BLANK from the next on. The form of the record is the model's (log 13). -/
def Obligations.AbandonedLineIsCutShort : Prop :=
  ∀ (p : PinsIn) (s : State), s.Inv → s.cfg.ClockedAdmissible → p.rst = true → s.seq ≠ .idle →
    ∃ t r, cycle p s = .next t ∧ t.records = s.records ++ [r] ∧ t.seq = .idle ∧ t.color = blank ∧ r.CutOf s.lineRecord ∧
      r ≠ s.lineRecord ∧ ∀ phase, r.colorAt phase = if phase ≤ s.hcnt then s.lineRecord.colorAt phase else blank

/-- R168: h_ready = 1 exactly when rst = 0, SEQ = IDLE and iack = 0; no host command falls in the cycle of an entry or in a body;
in a cycle without it no host command acts (60_exceptions.md R134): every byte, the returned values and RUN are as before. -/
def Obligations.HostIsHeldOffUnlessReady : Prop :=
  (∀ (p : PinsIn) (s : State), s.hReady p = true ↔ p.rst = false ∧ s.seq = .idle ∧ p.iack = false) ∧
  (∀ (p : PinsIn) (s : State), s.entered p ≠ none ∨ s.seq ≠ .idle → s.accepted p = none) ∧
  ∀ (p : PinsIn) (s : State) (t : State), p.rst = false → s.hReady p = false → cycle p s = .next t →
    (∀ (a : Nat), t.memRead a = s.memRead a) ∧ t.returned = s.returned ∧ t.run = s.run

/-- R160: the command accepted in a cycle is performed in it: a store is in the framebuffer, a read's value is returned and
stands on h_rdata. With a command other than START and STOP the timers and the flags go on, a tick setting its flag (R161 (5),
60_exceptions.md R127, R131); START and STOP override them, and the state after the cycle is that after the event (R161 (6)).
Two points of that are the model's readings, which R161 (6) and R102 do not spell out: that it drops a horizontal tick which
finds HPEND set, with no LOST_TICK (log 11), and that the cycle accepting STOP leaves HCNT and VCNT at their values at its
start (log 12). -/
def Obligations.AcceptedCommandsAct : Prop :=
  (∀ (p : PinsIn) (s : State), s.hReady p = true → hostCommand p ≠ .start → hostCommand p ≠ .stop → s.lostTick p = false →
    ∃ t u, cycle p s = .next t ∧ exec (hostCommand p) s = .next u ∧ t.seq = .idle ∧ t.pins = s.pins ++ [s.portsOut p] ∧
      t = { u with
        vpend := s.vpend || s.vTick
        hpend := s.hpend || s.hTick
        hcnt := s.nextHcnt
        vcnt := s.nextVcnt
        pins := t.pins
        draws := t.draws }) ∧
  (∀ (p : PinsIn) (s : State), s.hReady p = true → hostCommand p = .start ∨ hostCommand p = .stop →
    ∃ t u, cycle p s = .next t ∧ exec (hostCommand p) s = .next u ∧ t.seq = .idle ∧ t.pins = s.pins ++ [s.portsOut p] ∧
      t = { u with pins := t.pins, draws := t.draws }) ∧
  ∀ (p : PinsIn) (s : State), s.hReady p = true →
    (∀ (a : Addr), hostCommand p = .fbrd a → (s.portsOut p).hRdata = (s.hostRead a).toNat) ∧
    (hostCommand p = .rdet → (s.portsOut p).hRdata = s.et)

/-- 60_exceptions.md R127, R131, R139, R140, R161 (1) and (5): in every cycle without a reset and an accepted START or STOP (an
entry, a wait, a sequencer cycle, a host access), if no horizontal tick is lost and a pixel-bearing line is entered inside the
window, the cycle completes, each counter counts modulo its period while RUN = 1, and each flag is set after it exactly when its
channel ticked or it was set and its handler not entered. -/
def Obligations.TicksSetTheirPendingFlags : Prop :=
  ∀ (p : PinsIn) (s : State), p.rst = false → s.overridden p = false → s.lostTick p = false →
    (s.entered p = some .horizontal → s.lineCase = .emit →
      s.cfg.entryBase ≤ s.hcnt ∧ s.hcnt < s.cfg.entryBase + s.cfg.window) →
    ∃ t, cycle p s = .next t ∧ t.run = s.run ∧ t.pins = s.pins ++ [s.portsOut p] ∧
      (t.vpend = true ↔
        (s.run = true ∧ s.vcnt = s.cfg.framePeriod - 1) ∨ (s.vpend = true ∧ s.entered p ≠ some .vertical)) ∧
      (t.hpend = true ↔
        (s.run = true ∧ s.hcnt = s.cfg.linePeriod - 1) ∨ (s.hpend = true ∧ s.entered p ≠ some .horizontal)) ∧
      (s.run = true →
        t.hcnt = (if s.hcnt = s.cfg.linePeriod - 1 then 0 else s.hcnt + 1) ∧
        t.vcnt = (if s.vcnt = s.cfg.framePeriod - 1 then 0 else s.vcnt + 1)) ∧
      (s.run = false → t.hcnt = s.hcnt ∧ t.vcnt = s.vcnt)

/-- R163 and 60_exceptions.md R129, R130: an acknowledge with VPEND set enters the vertical handler, HPEND set or not; the five
writes are made in that cycle and VPEND is cleared unless the channel ticks again. -/
def Obligations.VerticalEntryComesFirst : Prop :=
  ∀ (p : PinsIn) (s : State), p.rst = false → p.iack = true → s.seq = .idle → s.vpend = true → s.lostTick p = false →
    ∃ t, cycle p s = .next t ∧
      t = { s with
        aline := 2 ^ s.cfg.alineW - 1
        vskip := s.cfg.skipLines
        rep := 0
        row := 0
        et := (s.et + 1) % 2 ^ s.cfg.etW
        vpend := s.vTick
        hpend := s.hpend || s.hTick
        hcnt := s.nextHcnt
        vcnt := s.nextVcnt
        pins := t.pins
        draws := t.draws }

/-- R164: a horizontal entry: SKIP and IDLE end at once; EMIT starts the sequencer with the delay (W − 1) − j, or is
TimingViolation(JITTER) outside the window. HPEND is cleared unless the channel ticks again (60_exceptions.md R131). That the
record of a SKIP or IDLE line is appended in this cycle, and that of an EMIT line is not, is the model's (log 13). -/
def Obligations.HorizontalEntryChoosesTheCase : Prop :=
  ∀ (p : PinsIn) (s : State), p.rst = false → p.iack = true → s.seq = .idle → s.vpend = false → s.hpend = true →
    (s.vskip ≠ 0 → ∃ t, cycle p s = .next t ∧ t.hpend = s.hTick ∧
      t = { s with
        vskip := s.vskip - 1, records := s.records ++ [.noPixels], vpend := s.vTick, hpend := t.hpend,
        hcnt := s.nextHcnt, vcnt := s.nextVcnt, pins := t.pins, draws := t.draws }) ∧
    (s.vskip = 0 → s.cfg.visibleLines ≤ s.row → ∃ t, cycle p s = .next t ∧ t.hpend = s.hTick ∧
      t = { s with
        records := s.records ++ [.noPixels], vpend := s.vTick, hpend := t.hpend,
        hcnt := s.nextHcnt, vcnt := s.nextVcnt, pins := t.pins, draws := t.draws }) ∧
    (s.vskip = 0 → s.row < s.cfg.visibleLines → ∀ (j : Nat), s.hcnt = s.cfg.entryBase + j → j < s.cfg.window →
      ∃ t, cycle p s = .next t ∧ t.hpend = s.hTick ∧
        t = { s with
          dly := (s.cfg.window - 1) - j, seq := .align, vpend := s.vTick, hpend := t.hpend,
          hcnt := s.nextHcnt, vcnt := s.nextVcnt, pins := t.pins, draws := t.draws }) ∧
    (s.vskip = 0 → s.row < s.cfg.visibleLines →
      (s.hcnt < s.cfg.entryBase ∨ s.cfg.entryBase + s.cfg.window ≤ s.hcnt) →
      cycle p s = .fault (.timingViolation .jitter))

/-- 60_exceptions.md R132: a horizontal tick with HPEND still set is TimingViolation(LOST_TICK); a vertical tick with VPEND still
set is not a fault, the flag simply stays set. That an accepted START or STOP of the same cycle drops the tick instead is the
model's reading of R161 (6) (log 11). -/
def Obligations.OnlyALostHorizontalTickFaults : Prop :=
  (∀ (p : PinsIn) (s : State), p.rst = false → s.hTick = true → s.hpend = true → s.entered p ≠ some .horizontal → s.overridden p = false →
    cycle p s = .fault (.timingViolation .lostTick)) ∧
  ∀ (p : PinsIn) (s : State), p.rst = false → s.vTick = true → s.vpend = true → s.lostTick p = false → s.overridden p = false →
    ∃ t, cycle p s = .next t ∧ t.vpend = true

/-- R155, R172: in a state of the invariant, an environment that keeps its obligations meets no fault: the cycle has a next
state. That a lost horizontal tick counts as kept, and the cycle completes, when START or STOP is accepted in it is the
model's reading of R161 (6) (log 11). -/
def Obligations.KeptContractNeverFaults : Prop :=
  ∀ (p : PinsIn) (s : State), s.Inv → s.cfg.ClockedAdmissible → envOk p s = true → ∃ t, cycle p s = .next t

/-- 60_exceptions.md R143, R144: each sync line is at its polarity exactly while RUN = 1 and its counter is below its width. -/
def Obligations.SyncPulsesOpenTheirPeriods : Prop :=
  ∀ (p : PinsIn) (s : State), ((s.portsOut p).hsync = s.cfg.hsyncPol ↔ s.run = true ∧ s.hcnt < s.cfg.hsyncWidth) ∧
    ((s.portsOut p).vsync = s.cfg.vsyncPol ↔ s.run = true ∧ s.vcnt < s.cfg.vsyncWidth)

/-- 60_exceptions.md R139, R140: n cycles after the counters were zeroed, with RUN = 1 and no START, STOP or reset since, HCNT is
n mod LINE_PERIOD and VCNT is n mod FRAME_PERIOD. -/
def Obligations.TimersCountModuloTheirPeriods : Prop :=
  ∀ (ps : List PinsIn) (s : State) (t : State), s.cfg.ClockedAdmissible → s.run = true → s.hcnt = 0 → s.vcnt = 0 →
    (∀ p ∈ ps, p.rst = false ∧ hostCommand p ≠ .start ∧ hostCommand p ≠ .stop) → runCycles ps s = .next t →
    t.run = true ∧ t.hcnt = ps.length % s.cfg.linePeriod ∧ t.vcnt = ps.length % s.cfg.framePeriod

/-- 60_exceptions.md R141: every vertical tick falls in the same cycle as a horizontal tick. -/
def Obligations.VerticalTicksAreHorizontalTicks : Prop :=
  ∀ (s : State), s.Inv → s.cfg.ClockedAdmissible → s.vTick = true → s.hTick = true

/-- 70_reset_and_hazards.md R165, R166, 41_horizontal_handler.md R83, R90, R91: in every state of the invariant the colour output is
what the record of the line in progress shows at the line phase, and BLANK when no body runs. -/
def Obligations.ColourFollowsLineRecord : Prop :=
  ∀ (s : State), s.Inv → s.cfg.ClockedAdmissible →
    (s.seq = .idle → s.color = blank) ∧ (s.seq ≠ .idle → s.color = s.lineRecord.colorAt s.hcnt)

/-- R96, R103, R135, R166, R167: a body in progress runs to line phase BLANK_START whatever the host port and the acknowledge do, with
no fault; its colours are its record's, phase by phase; then the architectural state is that after the event. That the record
is appended in the last cycle of the body is the model's (log 13). -/
def Obligations.BodyRunsToBlankStart : Prop :=
  ∀ (s : State) (ps : List PinsIn), s.Inv → s.cfg.ClockedAdmissible → s.seq ≠ .idle → (∀ p ∈ ps, p.rst = false) →
    s.hcnt + ps.length = s.cfg.blankStart →
    ∃ t u, runCycles ps s = .next t ∧ exec (.htick 0) s = .next u ∧ t.SameArch u ∧ t.records = u.records ∧
      t.returned = s.returned ∧ t.seq = .idle ∧ t.color = blank ∧ t.hcnt = s.cfg.blankStart ∧
      (t.pins.drop s.pins.length).map PinsOut.color =
        (List.range ps.length).map (fun n => s.lineRecord.colorAt (s.hcnt + n)) ∧
      (t.pins.drop s.pins.length).all (fun o => !o.hReady) = true

/-- An inference of the spec (R170, from R164 to R167; 41_horizontal_handler.md R88): on a pixel-bearing line the cycle-by-cycle
colours and the state after the line are the same for every entry phase in the window. That the record is appended by then is
the model's (log 13). -/
def Obligations.DejitterHidesTheEntryPhase : Prop :=
  ∀ (s : State) (j : Nat), s.Inv → s.cfg.ClockedAdmissible → s.run = true → s.seq = .idle → s.vpend = false →
    s.hpend = true → s.lineCase = .emit → s.hcnt = s.cfg.entryBase → j < s.cfg.window →
    ∃ t u, runCycles (lineInputs s.cfg j) s = .next t ∧ exec (.htick (BitVec.ofNat 8 j)) s = .next u ∧ t.SameArch u ∧
      t.records = u.records ∧ t.hcnt = s.cfg.blankStart ∧ t.seq = .idle ∧
      (t.pins.drop s.pins.length).map PinsOut.color =
        (List.range (s.cfg.blankStart - s.cfg.entryBase)).map (fun n => s.lineRecord.colorAt (s.cfg.entryBase + n))

/-- An inference of the spec (R169, from R160 to R167), one cycle: the architectural state, the line records and the returned
values after a cycle are those after the events whose effect lands in it; a reset adds the record of the line it cuts short
(42_lifecycle.md R104). In which cycle a record is appended, and the form of one cut short, is the model's (log 13). -/
def Obligations.CycleCommitsItsEvents : Prop :=
  ∀ (p : PinsIn) (s : State) (t : State), s.Inv → s.cfg.ClockedAdmissible → cycle p s = .next t →
    ∃ u, runEvents (committed p s) s = .next u ∧ t.SameArch u ∧ t.returned = u.returned ∧
      t.records = u.records ++ (if p.rst = true then s.cutRecord.toList else [])

/-- An inference of the spec (R169, from R160 to R167), a whole run: at any cycle with SEQ = IDLE the architectural state of the
clocked run, and the values returned, are those the event level gives after the events read off so far. The line records are
those too, one for one, but for those a reset has cut short (42_lifecycle.md R104); with no reset in the run they are equal. In
which cycle a record is appended, and the form of one cut short, is the model's (log 13). -/
def Obligations.ClockedRunRefinesItsEvents : Prop :=
  ∀ (ps : List PinsIn) (s : State) (t : State), s.Inv → s.cfg.ClockedAdmissible → s.seq = .idle → runCycles ps s = .next t → t.seq = .idle →
    ∃ u, runEvents (readOffRun false ps s) s = .next u ∧ t.SameArch u ∧ t.returned = u.returned ∧
      List.Forall₂ LineRecord.CutOf t.records u.records ∧ ((∀ p ∈ ps, p.rst = false) → t.records = u.records)

/-- An inference of the spec (60_exceptions.md R142, from R130, R139 to R141): from the state START leaves, until the next STOP, RESET or START, the handlers are entered in the order
FRAME_LINES − 1 HTICKs, then, repeated, one VTICK and FRAME_LINES HTICKs. -/
def Obligations.HandlerEntriesFollowTheTickPattern : Prop :=
  ∀ (ps : List PinsIn) (s : State) (t : State), s.Inv → s.cfg.ClockedAdmissible → s.run = true → s.hcnt = 0 → s.vcnt = 0 → s.vpend = false →
    s.hpend = false → s.seq = .idle →
    (∀ p ∈ ps, p.rst = false ∧ hostCommand p ≠ .start ∧ hostCommand p ≠ .stop) → runCycles ps s = .next t →
    ∀ entries, entries = (readOffRun false ps s).filterMap handlerOf →
      entries = (List.range entries.length).map (tickPattern s.cfg)

/-- 60_exceptions.md R148, and the spec's inference R150: a stopped block stays stopped and silent through any cycles without reset and START: no fault, no
request, deasserted sync, BLANK, the line counters, ET and the timers held. -/
def Obligations.StoppedBlockStaysSilent : Prop :=
  ∀ (ps : List PinsIn) (s : State), s.Inv → s.run = false → (∀ p ∈ ps, p.rst = false ∧ hostCommand p ≠ .start) →
    ∃ t, runCycles ps s = .next t ∧ t.run = false ∧ t.vpend = false ∧ t.hpend = false ∧ t.seq = .idle ∧
      t.hcnt = s.hcnt ∧ t.vcnt = s.vcnt ∧ t.vskip = s.vskip ∧ t.aline = s.aline ∧ t.row = s.row ∧ t.rep = s.rep ∧
      t.et = s.et ∧
      (t.pins.drop s.pins.length).all (fun o => !o.irqV && !o.irqH && (o.hsync == !s.cfg.hsyncPol) &&
        (o.vsync == !s.cfg.vsyncPol) && (o.color == blank)) = true

/-! ## Pseudo-operations (43_host_access.md) -/

/-- An inference of the spec (R121 (a), from R113 to R116): setting a pixel and reading it back yields the colour, and no other pixel's stored value changes, with any
handler events interleaved. -/
def Obligations.SetPixelReadsBack : Prop :=
  ∀ (s t : State) (x y col v : Nat) (gaps : List (List Instr)), s.cfg.Admissible → pixelInBounds s.cfg x y col →
    (∀ g ∈ gaps, ∀ e ∈ g, handlerOf e ≠ none) → (setPixel s.cfg x y col).run gaps s = .next (t, v) →
    ∀ x' y', x' < s.cfg.width → y' < s.cfg.height →
      t.pixelAt x' y' = if x' = x ∧ y' = y then BitVec.ofNat 2 col else s.pixelAt x' y'

/-- An inference of the spec (R121 (b), from R113 to R116): clear(c), then every pixel reads c, with any handler events interleaved. -/
def Obligations.ClearReadsBack : Prop :=
  (∀ (s t : State) (col : Sample) (v : Nat) (gaps : List (List Instr)), s.cfg.Admissible →
    (∀ g ∈ gaps, ∀ e ∈ g, handlerOf e ≠ none) → (clearScreen s.cfg col).run gaps s = .next (t, v) →
    ∀ x y, x < s.cfg.width → y < s.cfg.height → t.pixelAt x y = col) ∧
  ∀ (s : State) (col : Sample), ∃ t, (clearScreen s.cfg col).run [] s = .next (t, 0)

/-- An inference of the spec (R121 (c), from R113 to R116): copy(src), then every pixel reads what src has at the coordinate, with any handler events interleaved. -/
def Obligations.CopyReadsBack : Prop :=
  (∀ (s t : State) (src : List Byte) (v : Nat) (gaps : List (List Instr)), s.cfg.Admissible →
    src.length = s.cfg.fbSize → (∀ g ∈ gaps, ∀ e ∈ g, handlerOf e ≠ none) → (copyScreen src).run gaps s = .next (t, v) →
    ∀ x y, x < s.cfg.width → y < s.cfg.height →
      ∃ b, src[pixelAddr s.cfg x y]? = some b ∧ t.pixelAt x y = sample b (pixelPos x)) ∧
  ∀ (s : State) (src : List Byte), ∃ t, (copyScreen src).run [] s = .next (t, 0)

/-- R113, R114, R118: with no handler event between, SETPIXEL and GETPIXEL complete; GETPIXEL returns the pixel in bounds and 0 out
of bounds; SETPIXEL out of bounds is empty. -/
def Obligations.PixelOperationsComplete : Prop :=
  (∀ (s : State) (x y col : Nat), pixelInBounds s.cfg x y col → ∃ t, (setPixel s.cfg x y col).run [] s = .next (t, 0)) ∧
  (∀ (s : State) (x y : Nat), s.cfg.Admissible → x < s.cfg.width → y < s.cfg.height →
    ∃ t, (getPixel s.cfg x y).run [] s = .next (t, (s.pixelAt x y).toNat)) ∧
  (∀ (s : State) (x y col : Nat), ¬ pixelInBounds s.cfg x y col → (setPixel s.cfg x y col).run [] s = .next (s, 0)) ∧
  ∀ (s : State) (x y : Nat), ¬ (x < s.cfg.width ∧ y < s.cfg.height) → (getPixel s.cfg x y).run [] s = .next (s, 0)

/-- R119: the two readings scale with the frame period. -/
def Obligations.ElapsedReadingsScale : Prop :=
  ∀ (s : State) (period : Nat), ∃ t u, (elapsedMicros period).run [] s = .next (t, s.et * period) ∧
    (elapsedMillis period).run [] s = .next (u, s.et * period / 1000)
end

