-- ==== Sys2Proof/Laws/State.lean ====
section
/-! SUPPORT. One lemma per field per update of State: what the update leaves in the field. -/

namespace Sys2Proof.Machine

/-! ## emitRecord: `emit record` appends to the output trace only. -/

@[simp] theorem emitRecord_cfg (s : State) (r : LineRecord) : (s.emitRecord r).cfg = s.cfg := rfl
@[simp] theorem emitRecord_vskip (s : State) (r : LineRecord) : (s.emitRecord r).vskip = s.vskip := rfl
@[simp] theorem emitRecord_aline (s : State) (r : LineRecord) : (s.emitRecord r).aline = s.aline := rfl
@[simp] theorem emitRecord_row (s : State) (r : LineRecord) : (s.emitRecord r).row = s.row := rfl
@[simp] theorem emitRecord_rep (s : State) (r : LineRecord) : (s.emitRecord r).rep = s.rep := rfl
@[simp] theorem emitRecord_et (s : State) (r : LineRecord) : (s.emitRecord r).et = s.et := rfl
@[simp] theorem emitRecord_run (s : State) (r : LineRecord) : (s.emitRecord r).run = s.run := rfl
@[simp] theorem emitRecord_fb (s : State) (r : LineRecord) : (s.emitRecord r).fb = s.fb := rfl
@[simp] theorem emitRecord_vpend (s : State) (r : LineRecord) : (s.emitRecord r).vpend = s.vpend := rfl
@[simp] theorem emitRecord_hpend (s : State) (r : LineRecord) : (s.emitRecord r).hpend = s.hpend := rfl
@[simp] theorem emitRecord_hcnt (s : State) (r : LineRecord) : (s.emitRecord r).hcnt = s.hcnt := rfl
@[simp] theorem emitRecord_vcnt (s : State) (r : LineRecord) : (s.emitRecord r).vcnt = s.vcnt := rfl
@[simp] theorem emitRecord_seq (s : State) (r : LineRecord) : (s.emitRecord r).seq = s.seq := rfl
@[simp] theorem emitRecord_dly (s : State) (r : LineRecord) : (s.emitRecord r).dly = s.dly := rfl
@[simp] theorem emitRecord_k (s : State) (r : LineRecord) : (s.emitRecord r).k = s.k := rfl
@[simp] theorem emitRecord_ph (s : State) (r : LineRecord) : (s.emitRecord r).ph = s.ph := rfl
@[simp] theorem emitRecord_curb (s : State) (r : LineRecord) : (s.emitRecord r).curb = s.curb := rfl
@[simp] theorem emitRecord_color (s : State) (r : LineRecord) : (s.emitRecord r).color = s.color := rfl
@[simp] theorem emitRecord_records (s : State) (r : LineRecord) : (s.emitRecord r).records = s.records ++ [r] := rfl
@[simp] theorem emitRecord_returned (s : State) (r : LineRecord) : (s.emitRecord r).returned = s.returned := rfl
@[simp] theorem emitRecord_pins (s : State) (r : LineRecord) : (s.emitRecord r).pins = s.pins := rfl
@[simp] theorem emitRecord_draws (s : State) (r : LineRecord) : (s.emitRecord r).draws = s.draws := rfl
@[simp] theorem emitRecord_trace (s : State) (r : LineRecord) : (s.emitRecord r).trace = s.trace := rfl

/-! ## returnValue: `return v` appends to the returned values only. -/

@[simp] theorem returnValue_cfg (s : State) (v : HostValue) : (s.returnValue v).cfg = s.cfg := rfl
@[simp] theorem returnValue_vskip (s : State) (v : HostValue) : (s.returnValue v).vskip = s.vskip := rfl
@[simp] theorem returnValue_aline (s : State) (v : HostValue) : (s.returnValue v).aline = s.aline := rfl
@[simp] theorem returnValue_row (s : State) (v : HostValue) : (s.returnValue v).row = s.row := rfl
@[simp] theorem returnValue_rep (s : State) (v : HostValue) : (s.returnValue v).rep = s.rep := rfl
@[simp] theorem returnValue_et (s : State) (v : HostValue) : (s.returnValue v).et = s.et := rfl
@[simp] theorem returnValue_run (s : State) (v : HostValue) : (s.returnValue v).run = s.run := rfl
@[simp] theorem returnValue_fb (s : State) (v : HostValue) : (s.returnValue v).fb = s.fb := rfl
@[simp] theorem returnValue_vpend (s : State) (v : HostValue) : (s.returnValue v).vpend = s.vpend := rfl
@[simp] theorem returnValue_hpend (s : State) (v : HostValue) : (s.returnValue v).hpend = s.hpend := rfl
@[simp] theorem returnValue_hcnt (s : State) (v : HostValue) : (s.returnValue v).hcnt = s.hcnt := rfl
@[simp] theorem returnValue_vcnt (s : State) (v : HostValue) : (s.returnValue v).vcnt = s.vcnt := rfl
@[simp] theorem returnValue_seq (s : State) (v : HostValue) : (s.returnValue v).seq = s.seq := rfl
@[simp] theorem returnValue_dly (s : State) (v : HostValue) : (s.returnValue v).dly = s.dly := rfl
@[simp] theorem returnValue_k (s : State) (v : HostValue) : (s.returnValue v).k = s.k := rfl
@[simp] theorem returnValue_ph (s : State) (v : HostValue) : (s.returnValue v).ph = s.ph := rfl
@[simp] theorem returnValue_curb (s : State) (v : HostValue) : (s.returnValue v).curb = s.curb := rfl
@[simp] theorem returnValue_color (s : State) (v : HostValue) : (s.returnValue v).color = s.color := rfl
@[simp] theorem returnValue_records (s : State) (v : HostValue) : (s.returnValue v).records = s.records := rfl
@[simp] theorem returnValue_returned (s : State) (v : HostValue) : (s.returnValue v).returned = s.returned ++ [v] := rfl
@[simp] theorem returnValue_pins (s : State) (v : HostValue) : (s.returnValue v).pins = s.pins := rfl
@[simp] theorem returnValue_draws (s : State) (v : HostValue) : (s.returnValue v).draws = s.draws := rfl
@[simp] theorem returnValue_trace (s : State) (v : HostValue) : (s.returnValue v).trace = s.trace := rfl

/-! ## vtickWrites: VTICK's five writes (R77). -/

@[simp] theorem vtickWrites_cfg (s : State) : (s.vtickWrites).cfg = s.cfg := rfl
@[simp] theorem vtickWrites_vskip (s : State) : (s.vtickWrites).vskip = s.cfg.skipLines := rfl
@[simp] theorem vtickWrites_aline (s : State) : (s.vtickWrites).aline = s.cfg.alineSentinel := rfl
@[simp] theorem vtickWrites_row (s : State) : (s.vtickWrites).row = 0 := rfl
@[simp] theorem vtickWrites_rep (s : State) : (s.vtickWrites).rep = 0 := rfl
@[simp] theorem vtickWrites_et (s : State) : (s.vtickWrites).et = (s.et + 1) % 2 ^ s.cfg.etW := rfl
@[simp] theorem vtickWrites_run (s : State) : (s.vtickWrites).run = s.run := rfl
@[simp] theorem vtickWrites_fb (s : State) : (s.vtickWrites).fb = s.fb := rfl
@[simp] theorem vtickWrites_vpend (s : State) : (s.vtickWrites).vpend = s.vpend := rfl
@[simp] theorem vtickWrites_hpend (s : State) : (s.vtickWrites).hpend = s.hpend := rfl
@[simp] theorem vtickWrites_hcnt (s : State) : (s.vtickWrites).hcnt = s.hcnt := rfl
@[simp] theorem vtickWrites_vcnt (s : State) : (s.vtickWrites).vcnt = s.vcnt := rfl
@[simp] theorem vtickWrites_seq (s : State) : (s.vtickWrites).seq = s.seq := rfl
@[simp] theorem vtickWrites_dly (s : State) : (s.vtickWrites).dly = s.dly := rfl
@[simp] theorem vtickWrites_k (s : State) : (s.vtickWrites).k = s.k := rfl
@[simp] theorem vtickWrites_ph (s : State) : (s.vtickWrites).ph = s.ph := rfl
@[simp] theorem vtickWrites_curb (s : State) : (s.vtickWrites).curb = s.curb := rfl
@[simp] theorem vtickWrites_color (s : State) : (s.vtickWrites).color = s.color := rfl
@[simp] theorem vtickWrites_records (s : State) : (s.vtickWrites).records = s.records := rfl
@[simp] theorem vtickWrites_returned (s : State) : (s.vtickWrites).returned = s.returned := rfl
@[simp] theorem vtickWrites_pins (s : State) : (s.vtickWrites).pins = s.pins := rfl
@[simp] theorem vtickWrites_draws (s : State) : (s.vtickWrites).draws = s.draws := rfl
@[simp] theorem vtickWrites_trace (s : State) : (s.vtickWrites).trace = s.trace := rfl

/-! ## skipLine: The SKIP case (R85). -/

@[simp] theorem skipLine_cfg (s : State) : (s.skipLine).cfg = s.cfg := rfl
@[simp] theorem skipLine_vskip (s : State) : (s.skipLine).vskip = s.vskip - 1 := rfl
@[simp] theorem skipLine_aline (s : State) : (s.skipLine).aline = s.aline := rfl
@[simp] theorem skipLine_row (s : State) : (s.skipLine).row = s.row := rfl
@[simp] theorem skipLine_rep (s : State) : (s.skipLine).rep = s.rep := rfl
@[simp] theorem skipLine_et (s : State) : (s.skipLine).et = s.et := rfl
@[simp] theorem skipLine_run (s : State) : (s.skipLine).run = s.run := rfl
@[simp] theorem skipLine_fb (s : State) : (s.skipLine).fb = s.fb := rfl
@[simp] theorem skipLine_vpend (s : State) : (s.skipLine).vpend = s.vpend := rfl
@[simp] theorem skipLine_hpend (s : State) : (s.skipLine).hpend = s.hpend := rfl
@[simp] theorem skipLine_hcnt (s : State) : (s.skipLine).hcnt = s.hcnt := rfl
@[simp] theorem skipLine_vcnt (s : State) : (s.skipLine).vcnt = s.vcnt := rfl
@[simp] theorem skipLine_seq (s : State) : (s.skipLine).seq = s.seq := rfl
@[simp] theorem skipLine_dly (s : State) : (s.skipLine).dly = s.dly := rfl
@[simp] theorem skipLine_k (s : State) : (s.skipLine).k = s.k := rfl
@[simp] theorem skipLine_ph (s : State) : (s.skipLine).ph = s.ph := rfl
@[simp] theorem skipLine_curb (s : State) : (s.skipLine).curb = s.curb := rfl
@[simp] theorem skipLine_color (s : State) : (s.skipLine).color = s.color := rfl
@[simp] theorem skipLine_records (s : State) : (s.skipLine).records = s.records ++ [.noPixels] := rfl
@[simp] theorem skipLine_returned (s : State) : (s.skipLine).returned = s.returned := rfl
@[simp] theorem skipLine_pins (s : State) : (s.skipLine).pins = s.pins := rfl
@[simp] theorem skipLine_draws (s : State) : (s.skipLine).draws = s.draws := rfl
@[simp] theorem skipLine_trace (s : State) : (s.skipLine).trace = s.trace := rfl

/-! ## idleLine: The IDLE case (R94). -/

@[simp] theorem idleLine_cfg (s : State) : (s.idleLine).cfg = s.cfg := rfl
@[simp] theorem idleLine_vskip (s : State) : (s.idleLine).vskip = s.vskip := rfl
@[simp] theorem idleLine_aline (s : State) : (s.idleLine).aline = s.aline := rfl
@[simp] theorem idleLine_row (s : State) : (s.idleLine).row = s.row := rfl
@[simp] theorem idleLine_rep (s : State) : (s.idleLine).rep = s.rep := rfl
@[simp] theorem idleLine_et (s : State) : (s.idleLine).et = s.et := rfl
@[simp] theorem idleLine_run (s : State) : (s.idleLine).run = s.run := rfl
@[simp] theorem idleLine_fb (s : State) : (s.idleLine).fb = s.fb := rfl
@[simp] theorem idleLine_vpend (s : State) : (s.idleLine).vpend = s.vpend := rfl
@[simp] theorem idleLine_hpend (s : State) : (s.idleLine).hpend = s.hpend := rfl
@[simp] theorem idleLine_hcnt (s : State) : (s.idleLine).hcnt = s.hcnt := rfl
@[simp] theorem idleLine_vcnt (s : State) : (s.idleLine).vcnt = s.vcnt := rfl
@[simp] theorem idleLine_seq (s : State) : (s.idleLine).seq = s.seq := rfl
@[simp] theorem idleLine_dly (s : State) : (s.idleLine).dly = s.dly := rfl
@[simp] theorem idleLine_k (s : State) : (s.idleLine).k = s.k := rfl
@[simp] theorem idleLine_ph (s : State) : (s.idleLine).ph = s.ph := rfl
@[simp] theorem idleLine_curb (s : State) : (s.idleLine).curb = s.curb := rfl
@[simp] theorem idleLine_color (s : State) : (s.idleLine).color = s.color := rfl
@[simp] theorem idleLine_records (s : State) : (s.idleLine).records = s.records ++ [.noPixels] := rfl
@[simp] theorem idleLine_returned (s : State) : (s.idleLine).returned = s.returned := rfl
@[simp] theorem idleLine_pins (s : State) : (s.idleLine).pins = s.pins := rfl
@[simp] theorem idleLine_draws (s : State) : (s.idleLine).draws = s.draws := rfl
@[simp] theorem idleLine_trace (s : State) : (s.idleLine).trace = s.trace := rfl

/-! ## abandonLine: A body abandoned by rst (R104). -/

@[simp] theorem abandonLine_cfg (s : State) : (s.abandonLine).cfg = s.cfg := rfl
@[simp] theorem abandonLine_vskip (s : State) : (s.abandonLine).vskip = s.vskip := rfl
@[simp] theorem abandonLine_aline (s : State) : (s.abandonLine).aline = s.aline := rfl
@[simp] theorem abandonLine_row (s : State) : (s.abandonLine).row = s.row := rfl
@[simp] theorem abandonLine_rep (s : State) : (s.abandonLine).rep = s.rep := rfl
@[simp] theorem abandonLine_et (s : State) : (s.abandonLine).et = s.et := rfl
@[simp] theorem abandonLine_run (s : State) : (s.abandonLine).run = s.run := rfl
@[simp] theorem abandonLine_fb (s : State) : (s.abandonLine).fb = s.fb := rfl
@[simp] theorem abandonLine_vpend (s : State) : (s.abandonLine).vpend = s.vpend := rfl
@[simp] theorem abandonLine_hpend (s : State) : (s.abandonLine).hpend = s.hpend := rfl
@[simp] theorem abandonLine_hcnt (s : State) : (s.abandonLine).hcnt = s.hcnt := rfl
@[simp] theorem abandonLine_vcnt (s : State) : (s.abandonLine).vcnt = s.vcnt := rfl
@[simp] theorem abandonLine_seq (s : State) : (s.abandonLine).seq = s.seq := rfl
@[simp] theorem abandonLine_dly (s : State) : (s.abandonLine).dly = s.dly := rfl
@[simp] theorem abandonLine_k (s : State) : (s.abandonLine).k = s.k := rfl
@[simp] theorem abandonLine_ph (s : State) : (s.abandonLine).ph = s.ph := rfl
@[simp] theorem abandonLine_curb (s : State) : (s.abandonLine).curb = s.curb := rfl
@[simp] theorem abandonLine_color (s : State) : (s.abandonLine).color = s.color := rfl
@[simp] theorem abandonLine_records (s : State) : (s.abandonLine).records = s.records ++ s.cutRecord.toList := rfl
@[simp] theorem abandonLine_returned (s : State) : (s.abandonLine).returned = s.returned := rfl
@[simp] theorem abandonLine_pins (s : State) : (s.abandonLine).pins = s.pins := rfl
@[simp] theorem abandonLine_draws (s : State) : (s.abandonLine).draws = s.draws := rfl
@[simp] theorem abandonLine_trace (s : State) : (s.abandonLine).trace = s.trace := rfl

/-! ## advanceCounters: Step 2c and ALINE (R92, R93). -/

@[simp] theorem advanceCounters_cfg (s : State) : (s.advanceCounters).cfg = s.cfg := rfl
@[simp] theorem advanceCounters_vskip (s : State) : (s.advanceCounters).vskip = s.vskip := rfl
@[simp] theorem advanceCounters_aline (s : State) : (s.advanceCounters).aline = (s.aline + 1) % 2 ^ s.cfg.alineW := rfl
@[simp] theorem advanceCounters_row (s : State) : (s.advanceCounters).row = if s.rep + 1 = s.cfg.vscale then s.row + 1 else s.row := rfl
@[simp] theorem advanceCounters_rep (s : State) : (s.advanceCounters).rep = if s.rep + 1 = s.cfg.vscale then 0 else (s.rep + 1) % 2 ^ s.cfg.repW := rfl
@[simp] theorem advanceCounters_et (s : State) : (s.advanceCounters).et = s.et := rfl
@[simp] theorem advanceCounters_run (s : State) : (s.advanceCounters).run = s.run := rfl
@[simp] theorem advanceCounters_fb (s : State) : (s.advanceCounters).fb = s.fb := rfl
@[simp] theorem advanceCounters_vpend (s : State) : (s.advanceCounters).vpend = s.vpend := rfl
@[simp] theorem advanceCounters_hpend (s : State) : (s.advanceCounters).hpend = s.hpend := rfl
@[simp] theorem advanceCounters_hcnt (s : State) : (s.advanceCounters).hcnt = s.hcnt := rfl
@[simp] theorem advanceCounters_vcnt (s : State) : (s.advanceCounters).vcnt = s.vcnt := rfl
@[simp] theorem advanceCounters_seq (s : State) : (s.advanceCounters).seq = s.seq := rfl
@[simp] theorem advanceCounters_dly (s : State) : (s.advanceCounters).dly = s.dly := rfl
@[simp] theorem advanceCounters_k (s : State) : (s.advanceCounters).k = s.k := rfl
@[simp] theorem advanceCounters_ph (s : State) : (s.advanceCounters).ph = s.ph := rfl
@[simp] theorem advanceCounters_curb (s : State) : (s.advanceCounters).curb = s.curb := rfl
@[simp] theorem advanceCounters_color (s : State) : (s.advanceCounters).color = s.color := rfl
@[simp] theorem advanceCounters_records (s : State) : (s.advanceCounters).records = s.records := rfl
@[simp] theorem advanceCounters_returned (s : State) : (s.advanceCounters).returned = s.returned := rfl
@[simp] theorem advanceCounters_pins (s : State) : (s.advanceCounters).pins = s.pins := rfl
@[simp] theorem advanceCounters_draws (s : State) : (s.advanceCounters).draws = s.draws := rfl
@[simp] theorem advanceCounters_trace (s : State) : (s.advanceCounters).trace = s.trace := rfl

/-! ## finishLine: The end of a pixel-bearing invocation (R86, R167). -/

@[simp] theorem finishLine_cfg (s : State) : (s.finishLine).cfg = s.cfg := rfl
@[simp] theorem finishLine_vskip (s : State) : (s.finishLine).vskip = s.vskip := rfl
@[simp] theorem finishLine_aline (s : State) : (s.finishLine).aline = (s.aline + 1) % 2 ^ s.cfg.alineW := rfl
@[simp] theorem finishLine_row (s : State) : (s.finishLine).row = if s.rep + 1 = s.cfg.vscale then s.row + 1 else s.row := rfl
@[simp] theorem finishLine_rep (s : State) : (s.finishLine).rep = if s.rep + 1 = s.cfg.vscale then 0 else (s.rep + 1) % 2 ^ s.cfg.repW := rfl
@[simp] theorem finishLine_et (s : State) : (s.finishLine).et = s.et := rfl
@[simp] theorem finishLine_run (s : State) : (s.finishLine).run = s.run := rfl
@[simp] theorem finishLine_fb (s : State) : (s.finishLine).fb = s.fb := rfl
@[simp] theorem finishLine_vpend (s : State) : (s.finishLine).vpend = s.vpend := rfl
@[simp] theorem finishLine_hpend (s : State) : (s.finishLine).hpend = s.hpend := rfl
@[simp] theorem finishLine_hcnt (s : State) : (s.finishLine).hcnt = s.hcnt := rfl
@[simp] theorem finishLine_vcnt (s : State) : (s.finishLine).vcnt = s.vcnt := rfl
@[simp] theorem finishLine_seq (s : State) : (s.finishLine).seq = .idle := rfl
@[simp] theorem finishLine_dly (s : State) : (s.finishLine).dly = s.dly := rfl
@[simp] theorem finishLine_k (s : State) : (s.finishLine).k = s.k := rfl
@[simp] theorem finishLine_ph (s : State) : (s.finishLine).ph = s.ph := rfl
@[simp] theorem finishLine_curb (s : State) : (s.finishLine).curb = s.curb := rfl
@[simp] theorem finishLine_color (s : State) : (s.finishLine).color = blank := rfl
@[simp] theorem finishLine_records (s : State) : (s.finishLine).records = s.records ++ [s.lineRecord] := rfl
@[simp] theorem finishLine_returned (s : State) : (s.finishLine).returned = s.returned := rfl
@[simp] theorem finishLine_pins (s : State) : (s.finishLine).pins = s.pins := rfl
@[simp] theorem finishLine_draws (s : State) : (s.finishLine).draws = s.draws := rfl
@[simp] theorem finishLine_trace (s : State) : (s.finishLine).trace = s.trace := rfl

/-! ## startWrites: START (R100). -/

@[simp] theorem startWrites_cfg (s : State) : (s.startWrites).cfg = s.cfg := rfl
@[simp] theorem startWrites_vskip (s : State) : (s.startWrites).vskip = s.vskip := rfl
@[simp] theorem startWrites_aline (s : State) : (s.startWrites).aline = s.aline := rfl
@[simp] theorem startWrites_row (s : State) : (s.startWrites).row = s.row := rfl
@[simp] theorem startWrites_rep (s : State) : (s.startWrites).rep = s.rep := rfl
@[simp] theorem startWrites_et (s : State) : (s.startWrites).et = s.et := rfl
@[simp] theorem startWrites_run (s : State) : (s.startWrites).run = true := rfl
@[simp] theorem startWrites_fb (s : State) : (s.startWrites).fb = s.fb := rfl
@[simp] theorem startWrites_vpend (s : State) : (s.startWrites).vpend = false := rfl
@[simp] theorem startWrites_hpend (s : State) : (s.startWrites).hpend = false := rfl
@[simp] theorem startWrites_hcnt (s : State) : (s.startWrites).hcnt = 0 := rfl
@[simp] theorem startWrites_vcnt (s : State) : (s.startWrites).vcnt = 0 := rfl
@[simp] theorem startWrites_seq (s : State) : (s.startWrites).seq = s.seq := rfl
@[simp] theorem startWrites_dly (s : State) : (s.startWrites).dly = s.dly := rfl
@[simp] theorem startWrites_k (s : State) : (s.startWrites).k = s.k := rfl
@[simp] theorem startWrites_ph (s : State) : (s.startWrites).ph = s.ph := rfl
@[simp] theorem startWrites_curb (s : State) : (s.startWrites).curb = s.curb := rfl
@[simp] theorem startWrites_color (s : State) : (s.startWrites).color = blank := rfl
@[simp] theorem startWrites_records (s : State) : (s.startWrites).records = s.records := rfl
@[simp] theorem startWrites_returned (s : State) : (s.startWrites).returned = s.returned := rfl
@[simp] theorem startWrites_pins (s : State) : (s.startWrites).pins = s.pins := rfl
@[simp] theorem startWrites_draws (s : State) : (s.startWrites).draws = s.draws := rfl
@[simp] theorem startWrites_trace (s : State) : (s.startWrites).trace = s.trace := rfl

/-! ## stopWrites: STOP (R102). -/

@[simp] theorem stopWrites_cfg (s : State) : (s.stopWrites).cfg = s.cfg := rfl
@[simp] theorem stopWrites_vskip (s : State) : (s.stopWrites).vskip = s.vskip := rfl
@[simp] theorem stopWrites_aline (s : State) : (s.stopWrites).aline = s.aline := rfl
@[simp] theorem stopWrites_row (s : State) : (s.stopWrites).row = s.row := rfl
@[simp] theorem stopWrites_rep (s : State) : (s.stopWrites).rep = s.rep := rfl
@[simp] theorem stopWrites_et (s : State) : (s.stopWrites).et = s.et := rfl
@[simp] theorem stopWrites_run (s : State) : (s.stopWrites).run = false := rfl
@[simp] theorem stopWrites_fb (s : State) : (s.stopWrites).fb = s.fb := rfl
@[simp] theorem stopWrites_vpend (s : State) : (s.stopWrites).vpend = false := rfl
@[simp] theorem stopWrites_hpend (s : State) : (s.stopWrites).hpend = false := rfl
@[simp] theorem stopWrites_hcnt (s : State) : (s.stopWrites).hcnt = s.hcnt := rfl
@[simp] theorem stopWrites_vcnt (s : State) : (s.stopWrites).vcnt = s.vcnt := rfl
@[simp] theorem stopWrites_seq (s : State) : (s.stopWrites).seq = s.seq := rfl
@[simp] theorem stopWrites_dly (s : State) : (s.stopWrites).dly = s.dly := rfl
@[simp] theorem stopWrites_k (s : State) : (s.stopWrites).k = s.k := rfl
@[simp] theorem stopWrites_ph (s : State) : (s.stopWrites).ph = s.ph := rfl
@[simp] theorem stopWrites_curb (s : State) : (s.stopWrites).curb = s.curb := rfl
@[simp] theorem stopWrites_color (s : State) : (s.stopWrites).color = s.color := rfl
@[simp] theorem stopWrites_records (s : State) : (s.stopWrites).records = s.records := rfl
@[simp] theorem stopWrites_returned (s : State) : (s.stopWrites).returned = s.returned := rfl
@[simp] theorem stopWrites_pins (s : State) : (s.stopWrites).pins = s.pins := rfl
@[simp] theorem stopWrites_draws (s : State) : (s.stopWrites).draws = s.draws := rfl
@[simp] theorem stopWrites_trace (s : State) : (s.stopWrites).trace = s.trace := rfl

/-! ## resetRegisters: RESET (R104, R35). -/

@[simp] theorem resetRegisters_cfg (s : State) : (s.resetRegisters).cfg = s.cfg := rfl
@[simp] theorem resetRegisters_vskip (s : State) : (s.resetRegisters).vskip = s.cfg.skipLines := rfl
@[simp] theorem resetRegisters_aline (s : State) : (s.resetRegisters).aline = s.cfg.alineSentinel := rfl
@[simp] theorem resetRegisters_row (s : State) : (s.resetRegisters).row = 0 := rfl
@[simp] theorem resetRegisters_rep (s : State) : (s.resetRegisters).rep = 0 := rfl
@[simp] theorem resetRegisters_et (s : State) : (s.resetRegisters).et = 0 := rfl
@[simp] theorem resetRegisters_run (s : State) : (s.resetRegisters).run = false := rfl
@[simp] theorem resetRegisters_fb (s : State) : (s.resetRegisters).fb = s.fb := rfl
@[simp] theorem resetRegisters_vpend (s : State) : (s.resetRegisters).vpend = false := rfl
@[simp] theorem resetRegisters_hpend (s : State) : (s.resetRegisters).hpend = false := rfl
@[simp] theorem resetRegisters_hcnt (s : State) : (s.resetRegisters).hcnt = 0 := rfl
@[simp] theorem resetRegisters_vcnt (s : State) : (s.resetRegisters).vcnt = 0 := rfl
@[simp] theorem resetRegisters_seq (s : State) : (s.resetRegisters).seq = .idle := rfl
@[simp] theorem resetRegisters_dly (s : State) : (s.resetRegisters).dly = 0 := rfl
@[simp] theorem resetRegisters_k (s : State) : (s.resetRegisters).k = 0 := rfl
@[simp] theorem resetRegisters_ph (s : State) : (s.resetRegisters).ph = 0 := rfl
@[simp] theorem resetRegisters_curb (s : State) : (s.resetRegisters).curb = 0 := rfl
@[simp] theorem resetRegisters_color (s : State) : (s.resetRegisters).color = blank := rfl
@[simp] theorem resetRegisters_records (s : State) : (s.resetRegisters).records = s.records := rfl
@[simp] theorem resetRegisters_returned (s : State) : (s.resetRegisters).returned = s.returned := rfl
@[simp] theorem resetRegisters_pins (s : State) : (s.resetRegisters).pins = s.pins := rfl
@[simp] theorem resetRegisters_draws (s : State) : (s.resetRegisters).draws = s.draws := rfl
@[simp] theorem resetRegisters_trace (s : State) : (s.resetRegisters).trace = s.trace := rfl

/-! ## showByte: A newly read byte shown (R165, R166). -/

@[simp] theorem showByte_cfg (s : State) (b : Byte) : (s.showByte b).cfg = s.cfg := rfl
@[simp] theorem showByte_vskip (s : State) (b : Byte) : (s.showByte b).vskip = s.vskip := rfl
@[simp] theorem showByte_aline (s : State) (b : Byte) : (s.showByte b).aline = s.aline := rfl
@[simp] theorem showByte_row (s : State) (b : Byte) : (s.showByte b).row = s.row := rfl
@[simp] theorem showByte_rep (s : State) (b : Byte) : (s.showByte b).rep = s.rep := rfl
@[simp] theorem showByte_et (s : State) (b : Byte) : (s.showByte b).et = s.et := rfl
@[simp] theorem showByte_run (s : State) (b : Byte) : (s.showByte b).run = s.run := rfl
@[simp] theorem showByte_fb (s : State) (b : Byte) : (s.showByte b).fb = s.fb := rfl
@[simp] theorem showByte_vpend (s : State) (b : Byte) : (s.showByte b).vpend = s.vpend := rfl
@[simp] theorem showByte_hpend (s : State) (b : Byte) : (s.showByte b).hpend = s.hpend := rfl
@[simp] theorem showByte_hcnt (s : State) (b : Byte) : (s.showByte b).hcnt = s.hcnt := rfl
@[simp] theorem showByte_vcnt (s : State) (b : Byte) : (s.showByte b).vcnt = s.vcnt := rfl
@[simp] theorem showByte_seq (s : State) (b : Byte) : (s.showByte b).seq = s.seq := rfl
@[simp] theorem showByte_dly (s : State) (b : Byte) : (s.showByte b).dly = s.dly := rfl
@[simp] theorem showByte_k (s : State) (b : Byte) : (s.showByte b).k = s.k := rfl
@[simp] theorem showByte_ph (s : State) (b : Byte) : (s.showByte b).ph = s.ph := rfl
@[simp] theorem showByte_curb (s : State) (b : Byte) : (s.showByte b).curb = b := rfl
@[simp] theorem showByte_color (s : State) (b : Byte) : (s.showByte b).color = colorMap (sample b 0) := rfl
@[simp] theorem showByte_records (s : State) (b : Byte) : (s.showByte b).records = s.records := rfl
@[simp] theorem showByte_returned (s : State) (b : Byte) : (s.showByte b).returned = s.returned := rfl
@[simp] theorem showByte_pins (s : State) (b : Byte) : (s.showByte b).pins = s.pins := rfl
@[simp] theorem showByte_draws (s : State) (b : Byte) : (s.showByte b).draws = s.draws := rfl
@[simp] theorem showByte_trace (s : State) (b : Byte) : (s.showByte b).trace = s.trace := rfl

/-! ## observePins: The outputs of a cycle observed (R32 (c)). -/

@[simp] theorem observePins_cfg (p : PinsIn) (s : State) : (s.observePins p).cfg = s.cfg := rfl
@[simp] theorem observePins_vskip (p : PinsIn) (s : State) : (s.observePins p).vskip = s.vskip := rfl
@[simp] theorem observePins_aline (p : PinsIn) (s : State) : (s.observePins p).aline = s.aline := rfl
@[simp] theorem observePins_row (p : PinsIn) (s : State) : (s.observePins p).row = s.row := rfl
@[simp] theorem observePins_rep (p : PinsIn) (s : State) : (s.observePins p).rep = s.rep := rfl
@[simp] theorem observePins_et (p : PinsIn) (s : State) : (s.observePins p).et = s.et := rfl
@[simp] theorem observePins_run (p : PinsIn) (s : State) : (s.observePins p).run = s.run := rfl
@[simp] theorem observePins_fb (p : PinsIn) (s : State) : (s.observePins p).fb = s.fb := rfl
@[simp] theorem observePins_vpend (p : PinsIn) (s : State) : (s.observePins p).vpend = s.vpend := rfl
@[simp] theorem observePins_hpend (p : PinsIn) (s : State) : (s.observePins p).hpend = s.hpend := rfl
@[simp] theorem observePins_hcnt (p : PinsIn) (s : State) : (s.observePins p).hcnt = s.hcnt := rfl
@[simp] theorem observePins_vcnt (p : PinsIn) (s : State) : (s.observePins p).vcnt = s.vcnt := rfl
@[simp] theorem observePins_seq (p : PinsIn) (s : State) : (s.observePins p).seq = s.seq := rfl
@[simp] theorem observePins_dly (p : PinsIn) (s : State) : (s.observePins p).dly = s.dly := rfl
@[simp] theorem observePins_k (p : PinsIn) (s : State) : (s.observePins p).k = s.k := rfl
@[simp] theorem observePins_ph (p : PinsIn) (s : State) : (s.observePins p).ph = s.ph := rfl
@[simp] theorem observePins_curb (p : PinsIn) (s : State) : (s.observePins p).curb = s.curb := rfl
@[simp] theorem observePins_color (p : PinsIn) (s : State) : (s.observePins p).color = s.color := rfl
@[simp] theorem observePins_records (p : PinsIn) (s : State) : (s.observePins p).records = s.records := rfl
@[simp] theorem observePins_returned (p : PinsIn) (s : State) : (s.observePins p).returned = s.returned := rfl
@[simp] theorem observePins_pins (p : PinsIn) (s : State) : (s.observePins p).pins = s.pins ++ [s.portsOut p] := rfl
@[simp] theorem observePins_draws (p : PinsIn) (s : State) : (s.observePins p).draws = if (s.rdata p).isSome then s.draws else s.draws + 1 := rfl
@[simp] theorem observePins_trace (p : PinsIn) (s : State) : (s.observePins p).trace = s.trace := rfl

/-! ## landTimers: Timers and flags landing (R161). -/

@[simp] theorem landTimers_cfg (p : PinsIn) (s t : State) : (State.landTimers p s t).cfg = t.cfg := rfl
@[simp] theorem landTimers_vskip (p : PinsIn) (s t : State) : (State.landTimers p s t).vskip = t.vskip := rfl
@[simp] theorem landTimers_aline (p : PinsIn) (s t : State) : (State.landTimers p s t).aline = t.aline := rfl
@[simp] theorem landTimers_row (p : PinsIn) (s t : State) : (State.landTimers p s t).row = t.row := rfl
@[simp] theorem landTimers_rep (p : PinsIn) (s t : State) : (State.landTimers p s t).rep = t.rep := rfl
@[simp] theorem landTimers_et (p : PinsIn) (s t : State) : (State.landTimers p s t).et = t.et := rfl
@[simp] theorem landTimers_run (p : PinsIn) (s t : State) : (State.landTimers p s t).run = t.run := rfl
@[simp] theorem landTimers_fb (p : PinsIn) (s t : State) : (State.landTimers p s t).fb = t.fb := rfl
@[simp] theorem landTimers_vpend (p : PinsIn) (s t : State) : (State.landTimers p s t).vpend = s.nextVpend p := rfl
@[simp] theorem landTimers_hpend (p : PinsIn) (s t : State) : (State.landTimers p s t).hpend = s.nextHpend p := rfl
@[simp] theorem landTimers_hcnt (p : PinsIn) (s t : State) : (State.landTimers p s t).hcnt = s.nextHcnt := rfl
@[simp] theorem landTimers_vcnt (p : PinsIn) (s t : State) : (State.landTimers p s t).vcnt = s.nextVcnt := rfl
@[simp] theorem landTimers_seq (p : PinsIn) (s t : State) : (State.landTimers p s t).seq = t.seq := rfl
@[simp] theorem landTimers_dly (p : PinsIn) (s t : State) : (State.landTimers p s t).dly = t.dly := rfl
@[simp] theorem landTimers_k (p : PinsIn) (s t : State) : (State.landTimers p s t).k = t.k := rfl
@[simp] theorem landTimers_ph (p : PinsIn) (s t : State) : (State.landTimers p s t).ph = t.ph := rfl
@[simp] theorem landTimers_curb (p : PinsIn) (s t : State) : (State.landTimers p s t).curb = t.curb := rfl
@[simp] theorem landTimers_color (p : PinsIn) (s t : State) : (State.landTimers p s t).color = t.color := rfl
@[simp] theorem landTimers_records (p : PinsIn) (s t : State) : (State.landTimers p s t).records = t.records := rfl
@[simp] theorem landTimers_returned (p : PinsIn) (s t : State) : (State.landTimers p s t).returned = t.returned := rfl
@[simp] theorem landTimers_pins (p : PinsIn) (s t : State) : (State.landTimers p s t).pins = t.pins := rfl
@[simp] theorem landTimers_draws (p : PinsIn) (s t : State) : (State.landTimers p s t).draws = t.draws := rfl
@[simp] theorem landTimers_trace (p : PinsIn) (s t : State) : (State.landTimers p s t).trace = t.trace := rfl

/-! ## loadWord: A one-word trace loaded (log 3). -/

@[simp] theorem loadWord_cfg (s : State) (nbits w : Nat) : (s.loadWord nbits w).cfg = s.cfg := rfl
@[simp] theorem loadWord_vskip (s : State) (nbits w : Nat) : (s.loadWord nbits w).vskip = s.vskip := rfl
@[simp] theorem loadWord_aline (s : State) (nbits w : Nat) : (s.loadWord nbits w).aline = s.aline := rfl
@[simp] theorem loadWord_row (s : State) (nbits w : Nat) : (s.loadWord nbits w).row = s.row := rfl
@[simp] theorem loadWord_rep (s : State) (nbits w : Nat) : (s.loadWord nbits w).rep = s.rep := rfl
@[simp] theorem loadWord_et (s : State) (nbits w : Nat) : (s.loadWord nbits w).et = s.et := rfl
@[simp] theorem loadWord_run (s : State) (nbits w : Nat) : (s.loadWord nbits w).run = s.run := rfl
@[simp] theorem loadWord_fb (s : State) (nbits w : Nat) : (s.loadWord nbits w).fb = s.fb := rfl
@[simp] theorem loadWord_vpend (s : State) (nbits w : Nat) : (s.loadWord nbits w).vpend = s.vpend := rfl
@[simp] theorem loadWord_hpend (s : State) (nbits w : Nat) : (s.loadWord nbits w).hpend = s.hpend := rfl
@[simp] theorem loadWord_hcnt (s : State) (nbits w : Nat) : (s.loadWord nbits w).hcnt = s.hcnt := rfl
@[simp] theorem loadWord_vcnt (s : State) (nbits w : Nat) : (s.loadWord nbits w).vcnt = s.vcnt := rfl
@[simp] theorem loadWord_seq (s : State) (nbits w : Nat) : (s.loadWord nbits w).seq = s.seq := rfl
@[simp] theorem loadWord_dly (s : State) (nbits w : Nat) : (s.loadWord nbits w).dly = s.dly := rfl
@[simp] theorem loadWord_k (s : State) (nbits w : Nat) : (s.loadWord nbits w).k = s.k := rfl
@[simp] theorem loadWord_ph (s : State) (nbits w : Nat) : (s.loadWord nbits w).ph = s.ph := rfl
@[simp] theorem loadWord_curb (s : State) (nbits w : Nat) : (s.loadWord nbits w).curb = s.curb := rfl
@[simp] theorem loadWord_color (s : State) (nbits w : Nat) : (s.loadWord nbits w).color = s.color := rfl
@[simp] theorem loadWord_records (s : State) (nbits w : Nat) : (s.loadWord nbits w).records = s.records := rfl
@[simp] theorem loadWord_returned (s : State) (nbits w : Nat) : (s.loadWord nbits w).returned = s.returned := rfl
@[simp] theorem loadWord_pins (s : State) (nbits w : Nat) : (s.loadWord nbits w).pins = s.pins := rfl
@[simp] theorem loadWord_draws (s : State) (nbits w : Nat) : (s.loadWord nbits w).draws = s.draws := rfl
@[simp] theorem loadWord_trace (s : State) (nbits w : Nat) : (s.loadWord nbits w).trace = .events [BitVec.ofNat 32 (w % 2 ^ nbits)] := rfl

/-! ## hostWrite: FBWR changes the framebuffer only (R108). -/

@[simp] theorem hostWrite_cfg (s : State) (a : Addr) (d : Byte) : (s.hostWrite a d).cfg = s.cfg := by
  unfold State.hostWrite; split <;> rfl
@[simp] theorem hostWrite_vskip (s : State) (a : Addr) (d : Byte) : (s.hostWrite a d).vskip = s.vskip := by
  unfold State.hostWrite; split <;> rfl
@[simp] theorem hostWrite_aline (s : State) (a : Addr) (d : Byte) : (s.hostWrite a d).aline = s.aline := by
  unfold State.hostWrite; split <;> rfl
@[simp] theorem hostWrite_row (s : State) (a : Addr) (d : Byte) : (s.hostWrite a d).row = s.row := by
  unfold State.hostWrite; split <;> rfl
@[simp] theorem hostWrite_rep (s : State) (a : Addr) (d : Byte) : (s.hostWrite a d).rep = s.rep := by
  unfold State.hostWrite; split <;> rfl
@[simp] theorem hostWrite_et (s : State) (a : Addr) (d : Byte) : (s.hostWrite a d).et = s.et := by
  unfold State.hostWrite; split <;> rfl
@[simp] theorem hostWrite_run (s : State) (a : Addr) (d : Byte) : (s.hostWrite a d).run = s.run := by
  unfold State.hostWrite; split <;> rfl
@[simp] theorem hostWrite_fb (s : State) (a : Addr) (d : Byte) :
    (s.hostWrite a d).fb = if a.toNat < s.cfg.fbSize then s.fb.write a.toNat d else s.fb := by
  unfold State.hostWrite; split <;> rfl
@[simp] theorem hostWrite_vpend (s : State) (a : Addr) (d : Byte) : (s.hostWrite a d).vpend = s.vpend := by
  unfold State.hostWrite; split <;> rfl
@[simp] theorem hostWrite_hpend (s : State) (a : Addr) (d : Byte) : (s.hostWrite a d).hpend = s.hpend := by
  unfold State.hostWrite; split <;> rfl
@[simp] theorem hostWrite_hcnt (s : State) (a : Addr) (d : Byte) : (s.hostWrite a d).hcnt = s.hcnt := by
  unfold State.hostWrite; split <;> rfl
@[simp] theorem hostWrite_vcnt (s : State) (a : Addr) (d : Byte) : (s.hostWrite a d).vcnt = s.vcnt := by
  unfold State.hostWrite; split <;> rfl
@[simp] theorem hostWrite_seq (s : State) (a : Addr) (d : Byte) : (s.hostWrite a d).seq = s.seq := by
  unfold State.hostWrite; split <;> rfl
@[simp] theorem hostWrite_dly (s : State) (a : Addr) (d : Byte) : (s.hostWrite a d).dly = s.dly := by
  unfold State.hostWrite; split <;> rfl
@[simp] theorem hostWrite_k (s : State) (a : Addr) (d : Byte) : (s.hostWrite a d).k = s.k := by
  unfold State.hostWrite; split <;> rfl
@[simp] theorem hostWrite_ph (s : State) (a : Addr) (d : Byte) : (s.hostWrite a d).ph = s.ph := by
  unfold State.hostWrite; split <;> rfl
@[simp] theorem hostWrite_curb (s : State) (a : Addr) (d : Byte) : (s.hostWrite a d).curb = s.curb := by
  unfold State.hostWrite; split <;> rfl
@[simp] theorem hostWrite_color (s : State) (a : Addr) (d : Byte) : (s.hostWrite a d).color = s.color := by
  unfold State.hostWrite; split <;> rfl
@[simp] theorem hostWrite_records (s : State) (a : Addr) (d : Byte) : (s.hostWrite a d).records = s.records := by
  unfold State.hostWrite; split <;> rfl
@[simp] theorem hostWrite_returned (s : State) (a : Addr) (d : Byte) : (s.hostWrite a d).returned = s.returned := by
  unfold State.hostWrite; split <;> rfl
@[simp] theorem hostWrite_pins (s : State) (a : Addr) (d : Byte) : (s.hostWrite a d).pins = s.pins := by
  unfold State.hostWrite; split <;> rfl
@[simp] theorem hostWrite_draws (s : State) (a : Addr) (d : Byte) : (s.hostWrite a d).draws = s.draws := by
  unfold State.hostWrite; split <;> rfl
@[simp] theorem hostWrite_trace (s : State) (a : Addr) (d : Byte) : (s.hostWrite a d).trace = s.trace := by
  unfold State.hostWrite; split <;> rfl

end Sys2Proof.Machine
end

