-- ==== Sys2Proof/Laws/Ops.lean ====
section
/-! SUPPORT. What each shared operation can do, said once. -/

namespace Sys2Proof

/-! ## Configurations (00_scope.md R12) -/

theorem Config.fbSize_le_65536 {c : Config} (h : c.Admissible) : c.fbSize ≤ 65536 := by
  obtain ⟨-, -, -, -, -, -, -, -, -, -, h1, h2, -⟩ := h
  exact h1.trans h2

theorem Config.rowBase_le {c : Config} {r : Nat} (hr : r < c.visibleLines) :
    r * c.bytesPerRow + c.bytesPerRow ≤ c.fbSize := by
  have h : (r + 1) * c.bytesPerRow ≤ c.visibleLines * c.bytesPerRow := Nat.mul_le_mul_right _ hr
  rw [Nat.add_mul, Nat.one_mul] at h
  exact h

namespace Machine

/-! ## Memory (20_memory.md R49, R53) -/

@[simp] theorem Memory.read_nil (a : Nat) : Memory.read [] a = none := rfl

/-- A read of the address just written gives the value written. -/
@[simp] theorem Memory.read_write_same (m : Memory) (a : Nat) (v : Byte) : (m.write a v).read a = some v := by
  induction m with
  | nil => simp [Memory.write, Memory.read]
  | cons c m ih =>
    obtain ⟨b, u⟩ := c
    unfold Memory.write
    split
    · simp [Memory.read]
    · split
      · simp [Memory.read]
      · rename_i h; simp [Memory.read, Ne.symm h, ih]

/-- A write leaves every other address alone. -/
theorem Memory.read_write_other (m : Memory) {a b : Nat} (v : Byte) (h : b ≠ a) :
    (m.write a v).read b = m.read b := by
  induction m with
  | nil => simp [Memory.write, Memory.read, Ne.symm h]
  | cons c m ih =>
    obtain ⟨x, u⟩ := c
    unfold Memory.write
    split
    · simp [Memory.read, Ne.symm h]
    · split
      · rename_i hx; subst hx; simp [Memory.read, Ne.symm h]
      · simp [Memory.read, ih]

theorem Memory.rising_write {m : Memory} {lo a : Nat} (v : Byte) (h : m.rising lo = true) (ha : lo ≤ a) :
    (m.write a v).rising lo = true := by
  induction m generalizing lo with
  | nil => simpa [Memory.write, Memory.rising] using ha
  | cons c m ih =>
    obtain ⟨b, u⟩ := c
    simp only [Memory.rising, Bool.and_eq_true, decide_eq_true_eq] at h
    unfold Memory.write
    split
    · rename_i hab
      simp [Memory.rising, ha, h.2, Nat.succ_le_of_lt hab]
    · split
      · rename_i hab; subst hab; simp [Memory.rising, ha, h.2]
      · simp [Memory.rising, h.1, ih h.2 (by omega)]

/-- Every memory operation keeps the canonical form (a read changes nothing). -/
theorem Memory.wf_write {m : Memory} (a : Nat) (v : Byte) (h : m.wf = true) : (m.write a v).wf = true :=
  Memory.rising_write v h (Nat.zero_le a)

/-- The memory at reset has the canonical form. -/
theorem reset_memory_wf (c : Config) : (State.resetOf c).fb.wf = true := rfl

theorem memRead_congr {s t : State} (h : t.fb = s.fb) (a : Nat) : t.memRead a = s.memRead a := by
  simp [State.memRead, h]

/-- FBWR's effect on every byte (43_host_access.md R108, 20_memory.md R50). -/
theorem memRead_hostWrite (s : State) (a : Addr) (d : Byte) (b : Nat) :
    (s.hostWrite a d).memRead b = if a.toNat = b ∧ a.toNat < s.cfg.fbSize then d else s.memRead b := by
  by_cases hb : a.toNat = b
  · subst hb; by_cases h : a.toNat < s.cfg.fbSize <;> simp [State.memRead, h]
  · by_cases h : a.toNat < s.cfg.fbSize <;>
      simp [State.memRead, h, hb, Memory.read_write_other _ _ (Ne.symm hb)]

theorem hostWrite_frame (s : State) (a : Addr) (d : Byte) : s.hostWrite a d = { s with fb := (s.hostWrite a d).fb } := by
  unfold State.hostWrite; split <;> rfl

/-- Storing keeps the framebuffer canonical and inside its bounds. -/
theorem FramebufferOk_hostWrite {s : State} (h : s.FramebufferOk) (a : Addr) (d : Byte) :
    (s.hostWrite a d).FramebufferOk := by
  obtain ⟨hw, hb⟩ := h
  by_cases ha : a.toNat < s.cfg.fbSize
  · refine ⟨by simpa [ha] using Memory.wf_write _ _ hw, fun b hr => ?_⟩
    by_cases hab : b = a.toNat
    · simpa [hab] using ha
    · simp only [hostWrite_fb, ha, if_true, Memory.read_write_other _ _ hab] at hr
      simpa using hb b hr
  · refine ⟨by simpa [ha] using hw, fun b hr => ?_⟩
    simp only [hostWrite_fb, ha, if_false] at hr
    simpa using hb b hr

/-! ## The cases of an HTICK (41_horizontal_handler.md R84) -/

theorem lineCase_skip {s : State} : s.lineCase = .skip ↔ s.vskip ≠ 0 := by
  unfold State.lineCase; split <;> [skip; split] <;> simp_all

theorem lineCase_emit {s : State} : s.lineCase = .emit ↔ s.vskip = 0 ∧ s.row < s.cfg.visibleLines := by
  unfold State.lineCase; split <;> [skip; split] <;> simp_all

theorem lineCase_idle {s : State} : s.lineCase = .idle ↔ s.vskip = 0 ∧ s.cfg.visibleLines ≤ s.row := by
  unfold State.lineCase; split <;> [skip; split] <;> simp_all

theorem lineCase_congr {s t : State} (hc : t.cfg = s.cfg) (hv : t.vskip = s.vskip) (hr : t.row = s.row) :
    t.lineCase = s.lineCase := by
  simp [State.lineCase, hc, hv, hr]

/-! ## Samples (30_encoding.md R61, 41_horizontal_handler.md R89) -/

@[simp] theorem samplesOfByte_length (b : Byte) : (samplesOfByte b).length = 4 := rfl

theorem samplesOfByte_getElem? (b : Byte) {i : Nat} (h : i < 4) : (samplesOfByte b)[i]? = some (sample b i) := by
  interval_cases i <;> rfl

theorem flatMap_samples_length (l : List Byte) : (l.flatMap samplesOfByte).length = 4 * l.length := by
  induction l with
  | nil => rfl
  | cons b l ih => simp [ih]; omega

theorem flatMap_samples_getElem? (l : List Byte) (n : Nat) :
    (l.flatMap samplesOfByte)[n]? = (l[n / 4]?).map (fun b => sample b (n % 4)) := by
  induction l generalizing n with
  | nil => simp
  | cons b l ih =>
    rw [List.flatMap_cons]
    by_cases hn : n < 4
    · rw [List.getElem?_append_left (by simpa using hn), samplesOfByte_getElem? b hn]
      simp [Nat.div_eq_of_lt hn, Nat.mod_eq_of_lt hn]
    · rw [List.getElem?_append_right (by simpa using Nat.le_of_not_lt hn), samplesOfByte_length, ih]
      have h1 : n / 4 = (n - 4) / 4 + 1 := by omega
      have h2 : n % 4 = (n - 4) % 4 := by omega
      rw [h1, h2, List.getElem?_cons_succ]

@[simp] theorem rowBytes_length (s : State) : s.rowBytes.length = s.cfg.bytesPerVisibleRow := by
  simp [State.rowBytes]

/-- A line has 4 × BPV samples (R89). -/
@[simp] theorem rowSamples_length (s : State) : s.rowSamples.length = s.cfg.samplesPerLine := by
  rw [State.rowSamples, flatMap_samples_length, rowBytes_length, Config.samplesPerLine]

/-- Sample n of a line is sample n mod 4 of byte n div 4 of the row (R89). -/
theorem rowSamples_getElem? (s : State) {n : Nat} (h : n < s.cfg.samplesPerLine) :
    s.rowSamples[n]? = some (sample (s.memRead (rowAddr s.cfg s.row (n / 4))) (n % 4)) := by
  have hn : n / 4 < s.cfg.bytesPerVisibleRow := by unfold Config.samplesPerLine at h; omega
  simp [State.rowSamples, flatMap_samples_getElem?, State.rowBytes, hn]

theorem rowSamples_congr {s t : State} (hc : t.cfg = s.cfg) (hr : t.row = s.row) (hf : t.fb = s.fb) :
    t.rowSamples = s.rowSamples := by
  simp [State.rowSamples, State.rowBytes, hc, hr, memRead_congr hf]

theorem lineRecord_congr {s t : State} (hc : t.cfg = s.cfg) (hr : t.row = s.row) (hf : t.fb = s.fb) :
    t.lineRecord = s.lineRecord := by
  simp [State.lineRecord, hc, rowSamples_congr hc hr hf]

/-- Setting a pixel position and reading any position back (43_host_access.md R113, R121). -/
theorem sample_setSample (v : Byte) {i j : Nat} (hi : i < 4) (hj : j < 4) (c : Sample) :
    sample (setSample v i c) j = if j = i then c else sample v j := by
  interval_cases i <;> interval_cases j <;>
    (simp only [sample, setSample]; ext n hn; interval_cases n <;> simp)

theorem sample_fillByte (c : Sample) {i : Nat} (hi : i < 4) : sample (fillByte c) i = c := by
  interval_cases i <;> revert c <;> decide

/-! ## A line cut short (42_lifecycle.md R104) -/

/-- Exactly a body in progress leaves a record cut short. -/
theorem cutRecord_eq_none {s : State} : s.cutRecord = none ↔ s.seq = .idle := by
  unfold State.cutRecord; split <;> simp_all

/-- With a body in progress the record cut short holds the first samples of the line record, and stops after this phase. -/
theorem cutRecord_cases {s : State} {r : LineRecord} (h : s.cutRecord = some r) :
    ∃ n, r = .cutShort s.cfg.emitStart s.cfg.cps (s.rowSamples.take n) (s.hcnt + 1) ∧
      ((s.seq = .align ∧ n = 0) ∨ (s.seq = .emit ∧ n = s.k + 1)) := by
  unfold State.cutRecord at h
  split at h
  · cases h
  · exact ⟨0, by simpa using h.symm, .inl ⟨‹_›, rfl⟩⟩
  · exact ⟨_, by simpa using h.symm, .inr ⟨‹_›, rfl⟩⟩

/-! ## Handler entry (70_reset_and_hazards.md R164) -/

/-- A horizontal entry gives a state in one of the three cases. -/
theorem enterHorizontal_cases {s t : State} (h : s.enterHorizontal = some t) :
    (s.lineCase = .skip ∧ t = s.skipLine) ∨ (s.lineCase = .idle ∧ t = s.idleLine) ∨
    (s.lineCase = .emit ∧ s.cfg.entryBase ≤ s.hcnt ∧ s.hcnt - s.cfg.entryBase < s.cfg.window ∧
      t = { s with dly := alignDelay s.cfg (s.hcnt - s.cfg.entryBase), seq := .align }) := by
  unfold State.enterHorizontal at h
  split at h
  · exact .inl ⟨‹_›, by simpa using h.symm⟩
  · exact .inr (.inl ⟨‹_›, by simpa using h.symm⟩)
  · split at h
    · rename_i hc; exact .inr (.inr ⟨‹_›, hc.1, hc.2, by simpa using h.symm⟩)
    · cases h

/-- A horizontal entry has no state exactly when the line is pixel-bearing and the phase is outside the window. -/
theorem enterHorizontal_none {s : State} :
    s.enterHorizontal = none ↔
      s.lineCase = .emit ∧ ¬ (s.cfg.entryBase ≤ s.hcnt ∧ s.hcnt - s.cfg.entryBase < s.cfg.window) := by
  unfold State.enterHorizontal
  split <;> simp_all

end Machine

end Sys2Proof
end

