-- ==== Sys2Proof/Laws/Exec.lean ====
section
/-! SUPPORT. What exec can answer, said once, and what a run of events is. -/

namespace Sys2Proof.Machine

/-- If exec answers a next state, it is one of these. -/
theorem exec_next_cases {i : Instr} {s t : State} (h : exec i s = .next t) :
    (i = .nop ∧ t = s) ∨ (i = .vtick ∧ s.run = true ∧ t = s.vtickWrites) ∨
    (∃ j, i = .htick j ∧ s.run = true ∧
      ((s.lineCase = .skip ∧ t = s.skipLine) ∨ (s.lineCase = .idle ∧ t = s.idleLine) ∨
        (s.lineCase = .emit ∧ j.toNat < s.cfg.window ∧ t = s.finishLine))) ∨
    (∃ a d, i = .fbwr a d ∧ t = s.hostWrite a d) ∨
    (∃ a, i = .fbrd a ∧ t = s.returnValue (.byte (s.hostRead a))) ∨
    (i = .rdet ∧ t = s.returnValue (.elapsed s.et)) ∨ (i = .start ∧ t = s.startWrites) ∨
    (i = .stop ∧ t = s.stopWrites) ∨ (i = .reset ∧ t = s.resetRegisters) := by
  cases i with
  | nop => simp only [exec, execNop, Host.Outcome.next.injEq] at h; simp [h]
  | vtick =>
    simp only [exec, execVtick] at h
    split at h <;> simp_all
  | htick j =>
    simp only [exec, execHtick] at h
    split at h
    · split at h <;> [skip; skip; split at h] <;> simp_all
    · cases h
  | fbwr a d => simp only [exec, execFbwr, Host.Outcome.next.injEq] at h; simp [h]
  | fbrd a => simp only [exec, execFbrd, Host.Outcome.next.injEq] at h; simp [h]
  | rdet => simp only [exec, execRdet, Host.Outcome.next.injEq] at h; simp [h]
  | start => simp only [exec, execStart, Host.Outcome.next.injEq] at h; simp [h]
  | stop => simp only [exec, execStop, Host.Outcome.next.injEq] at h; simp [h]
  | reset => simp only [exec, execReset, Host.Outcome.next.injEq] at h; simp [h]

theorem exec_vtick {s : State} (h : s.run = true) : exec .vtick s = .next s.vtickWrites := by
  simp [exec, execVtick, h]

theorem exec_htick_skip {s : State} (j : Byte) (h : s.run = true) (hc : s.lineCase = .skip) :
    exec (.htick j) s = .next s.skipLine := by
  simp [exec, execHtick, h, hc]

theorem exec_htick_idle {s : State} (j : Byte) (h : s.run = true) (hc : s.lineCase = .idle) :
    exec (.htick j) s = .next s.idleLine := by
  simp [exec, execHtick, h, hc]

theorem exec_htick_emit {s : State} {j : Byte} (h : s.run = true) (hc : s.lineCase = .emit)
    (hj : j.toNat < s.cfg.window) : exec (.htick j) s = .next s.finishLine := by
  simp [exec, execHtick, h, hc, hj]

theorem exec_htick_late {s : State} {j : Byte} (h : s.run = true) (hc : s.lineCase = .emit)
    (hj : s.cfg.window ≤ j.toNat) : exec (.htick j) s = .fault (.timingViolation .jitter) := by
  simp [exec, execHtick, h, hc, Nat.not_lt.mpr hj]

/-- A handler event is no step with RUN = 0. -/
theorem exec_htick_disarmed {s : State} (j : Byte) (h : s.run = false) :
    exec (.htick j) s = .refused .handlerDisarmed := by
  simp [exec, execHtick, h]

@[simp] theorem runEvents_nil (s : State) : runEvents [] s = .next s := rfl

/-- A run of events that ends went through its first event. -/
theorem runEvents_cons {e : Instr} {es : List Instr} {s t : State} :
    runEvents (e :: es) s = .next t ↔ ∃ u, exec e s = .next u ∧ runEvents es u = .next t := by
  simp only [runEvents]
  cases exec e s <;> simp

theorem runEvents_append {es fs : List Instr} {s t : State} :
    runEvents (es ++ fs) s = .next t ↔ ∃ u, runEvents es s = .next u ∧ runEvents fs u = .next t := by
  induction es generalizing s with
  | nil => simp
  | cons e es ih => simp only [List.cons_append, runEvents_cons, ih]; aesop

end Sys2Proof.Machine
end

