-- ==== Sys2Proof/Laws/Cycle.lean ====
section
/-! SUPPORT. What a clock cycle can answer, said once, and what a run of cycles is. -/

namespace Sys2Proof.Machine

/-! ## Observing the outputs leaves what a cycle reads -/

@[simp] theorem entered_observePins (p q : PinsIn) (s : State) : (s.observePins q).entered p = s.entered p := rfl
@[simp] theorem accepted_observePins (p q : PinsIn) (s : State) : (s.observePins q).accepted p = s.accepted p := rfl
@[simp] theorem lineCase_observePins (q : PinsIn) (s : State) : (s.observePins q).lineCase = s.lineCase := rfl
@[simp] theorem lineRecord_observePins (q : PinsIn) (s : State) : (s.observePins q).lineRecord = s.lineRecord := rfl
@[simp] theorem cutRecord_observePins (q : PinsIn) (s : State) : (s.observePins q).cutRecord = s.cutRecord := rfl
@[simp] theorem memRead_observePins (q : PinsIn) (s : State) (a : Nat) : (s.observePins q).memRead a = s.memRead a := rfl
@[simp] theorem hostRead_observePins (q : PinsIn) (s : State) (a : Addr) : (s.observePins q).hostRead a = s.hostRead a := rfl
@[simp] theorem lastEmitCycle_observePins (q : PinsIn) (s : State) : (s.observePins q).lastEmitCycle = s.lastEmitCycle := rfl

/-! ## Inversion (70_reset_and_hazards.md R161) -/

/-- If a cycle answers a next state, it is one of these. -/
theorem cycle_next_cases {p : PinsIn} {s t : State} (h : cycle p s = .next t) :
    (p.rst = true ∧ t = (s.observePins p).abandonLine.resetRegisters) ∨
    (p.rst = false ∧ ∃ b, (s.observePins p).cycleBody p = some b ∧
      ((s.overridden p = true ∧ t = b) ∨
        (s.overridden p = false ∧ s.lostTick p = false ∧ t = State.landTimers p s b))) := by
  unfold cycle at h
  split at h
  · exact .inl ⟨‹_›, by simpa using h.symm⟩
  · refine .inr ⟨by simpa using ‹¬ p.rst = true›, ?_⟩
    split at h
    · cases h
    · refine ⟨_, ‹_›, ?_⟩
      split at h
      · exact .inl ⟨‹_›, by simpa using h.symm⟩
      · split at h
        · cases h
        · exact .inr ⟨by simp_all, by simp_all, by simpa using h.symm⟩

/-- With rst = 1 a cycle resets the registers and cuts the line in progress short (R161, 42_lifecycle.md R104). -/
theorem cycle_rst {p : PinsIn} {s : State} (h : p.rst = true) :
    cycle p s = .next (s.observePins p).abandonLine.resetRegisters := by
  simp [cycle, h]

/-- The body of a cycle is one of the exclusive steps 2, 3 and 4 of R161. -/
theorem cycleBody_cases {p : PinsIn} {s b : State} (h : s.cycleBody p = some b) :
    (s.entered p = some .vertical ∧ b = s.vtickWrites) ∨
    (s.entered p = some .horizontal ∧ s.enterHorizontal = some b) ∨
    (s.entered p = none ∧ s.seq = .align ∧ b = s.alignStep) ∨
    (s.entered p = none ∧ s.seq = .emit ∧ b = s.emitStep) ∨
    (s.entered p = none ∧ s.seq = .idle ∧ s.accepted p = some (hostCommand p) ∧ b = s.performHost (hostCommand p)) ∨
    (s.entered p = none ∧ s.seq = .idle ∧ s.accepted p = none ∧ b = s) := by
  unfold State.cycleBody at h
  split at h
  · simp_all
  · simp_all
  · split at h
    · simp_all
    · simp_all
    · split at h
      · rename_i i hi
        have : i = hostCommand p := by
          unfold State.accepted at hi; split at hi <;> simp_all
        subst this; simp_all
      · simp_all

/-- An entry happens with the sequencer idle, on an acknowledge, for the handler requested (R162). -/
theorem entered_some {p : PinsIn} {s : State} {k : Handler} (h : s.entered p = some k) :
    p.iack = true ∧ s.seq = .idle ∧ s.requested = some k := by
  unfold State.entered at h; split at h <;> simp_all

theorem entered_of_not_idle {p : PinsIn} {s : State} (h : s.seq ≠ .idle) : s.entered p = none := by
  simp [State.entered, h]

theorem requested_vertical {s : State} : s.requested = some .vertical ↔ s.vpend = true := by
  unfold State.requested; split <;> [skip; split] <;> simp_all

theorem requested_horizontal {s : State} : s.requested = some .horizontal ↔ s.vpend = false ∧ s.hpend = true := by
  unfold State.requested; split <;> [skip; split] <;> simp_all

theorem requested_none {s : State} : s.requested = none ↔ s.vpend = false ∧ s.hpend = false := by
  unfold State.requested; split <;> [skip; split] <;> simp_all

theorem hReady_iff {p : PinsIn} {s : State} :
    s.hReady p = true ↔ p.rst = false ∧ s.seq = .idle ∧ p.iack = false := by
  simp [State.hReady, and_assoc]

theorem accepted_some {p : PinsIn} {s : State} {i : Instr} (h : s.accepted p = some i) :
    s.hReady p = true ∧ i = hostCommand p := by
  unfold State.accepted at h; split at h <;> simp_all

theorem accepted_of_ready {p : PinsIn} {s : State} (h : s.hReady p = true) : s.accepted p = some (hostCommand p) := by
  simp [State.accepted, h]

theorem accepted_of_not_idle {p : PinsIn} {s : State} (h : s.seq ≠ .idle) : s.accepted p = none := by
  simp [State.accepted, State.hReady, h]

theorem overridden_of_not_ready {p : PinsIn} {s : State} (h : s.hReady p = false) : s.overridden p = false := by
  simp [State.overridden, State.accepted, h]

/-- The override is an accepted START or STOP. -/
theorem overridden_iff {p : PinsIn} {s : State} :
    s.overridden p = true ↔ s.hReady p = true ∧ (hostCommand p = .start ∨ hostCommand p = .stop) := by
  unfold State.overridden State.accepted
  split <;> simp_all

/-- The host port carries only host events (30_encoding.md R71). -/
theorem hostCommand_cases (p : PinsIn) :
    hostCommand p = .nop ∨ hostCommand p = .fbwr p.hAddr p.hWdata ∨ hostCommand p = .fbrd p.hAddr ∨
    hostCommand p = .rdet ∨ hostCommand p = .start ∨ hostCommand p = .stop := by
  unfold hostCommand; split <;> simp

/-- The command performed in a cycle is its event (70_reset_and_hazards.md R160). -/
theorem exec_hostCommand (p : PinsIn) (s : State) :
    exec (hostCommand p) s = .next (s.performHost (hostCommand p)) := by
  rcases hostCommand_cases p with h | h | h | h | h | h <;> rw [h] <;> rfl

/-! ## Runs of cycles -/

@[simp] theorem runCycles_nil (s : State) : runCycles [] s = .next s := rfl

theorem runCycles_cons {p : PinsIn} {ps : List PinsIn} {s t : State} :
    runCycles (p :: ps) s = .next t ↔ ∃ u, cycle p s = .next u ∧ runCycles ps u = .next t := by
  simp only [runCycles]
  cases cycle p s <;> simp

theorem runCycles_append {ps qs : List PinsIn} {s t : State} :
    runCycles (ps ++ qs) s = .next t ↔ ∃ u, runCycles ps s = .next u ∧ runCycles qs u = .next t := by
  induction ps generalizing s with
  | nil => simp
  | cons p ps ih => simp only [List.cons_append, runCycles_cons, ih]; aesop

end Sys2Proof.Machine
end

