-- ==== Sys2Proof/Laws/Decode.lean ====
section
/-! SUPPORT. The fields of a packed word, and the word of its fields (30_encoding.md R63). -/

namespace Sys2Proof

@[simp] theorem opField_packWord (op : BitVec 4) (a : Addr) (d : Byte) : opField (packWord op a d) = op := by
  simp only [opField, packWord]; ext n hn; interval_cases n <;> simp

@[simp] theorem zField_packWord (op : BitVec 4) (a : Addr) (d : Byte) : zField (packWord op a d) = 0 := by
  simp only [zField, packWord]; ext n hn; interval_cases n <;> simp

@[simp] theorem aField_packWord (op : BitVec 4) (a : Addr) (d : Byte) : aField (packWord op a d) = a := by
  simp only [aField, packWord]; ext n hn; interval_cases n <;> simp

@[simp] theorem dField_packWord (op : BitVec 4) (a : Addr) (d : Byte) : dField (packWord op a d) = d := by
  simp only [dField, packWord]; ext n hn; interval_cases n <;> simp

/-- A word whose Z field is zero is the word of its other fields. -/
theorem packWord_fields (w : EventWord) (hz : zField w = 0) : packWord (opField w) (aField w) (dField w) = w := by
  have hz' : ∀ n, n < 4 → w.getLsbD (24 + n) = false := by
    intro n hn
    have := congrArg (fun v => v.getLsbD n) hz
    simpa [zField, hn] using this
  simp only [packWord, opField, aField, dField]
  ext n hn
  have h0 := hz' 0; have h1 := hz' 1; have h2 := hz' 2; have h3 := hz' 3
  interval_cases n <;>
    simp_all [BitVec.getLsbD_eq_getElem]

end Sys2Proof
end

