-- ==== Sys2Proof/Laws/PerInstr.lean ====
section
/-! SUPPORT. A family of statements with one lemma per constructor of Instr: the word of an event fits its row of the opcode
table (30_encoding.md R66). -/

namespace Sys2Proof.Laws.EncodingFitsRow

/-- The encoded word satisfies `w & mask = match` for the event's row (30_encoding.md R66). -/
def Statement (i : Instr) : Prop := encode i &&& rowMask i = rowMatch i

theorem nop : Statement .nop := by unfold Statement; decide
theorem vtick : Statement .vtick := by unfold Statement; decide
theorem htick (j : Byte) : Statement (.htick j) := by
  simp only [Statement, encode, rowMask, rowMatch, packWord]
  ext n hn
  interval_cases n <;> simp
theorem fbwr (a : Addr) (d : Byte) : Statement (.fbwr a d) := by
  simp only [Statement, encode, rowMask, rowMatch, packWord]
  ext n hn
  interval_cases n <;> simp
theorem fbrd (a : Addr) : Statement (.fbrd a) := by
  simp only [Statement, encode, rowMask, rowMatch, packWord]
  ext n hn
  interval_cases n <;> simp
theorem rdet : Statement .rdet := by unfold Statement; decide
theorem start : Statement .start := by unfold Statement; decide
theorem stop : Statement .stop := by unfold Statement; decide
theorem reset : Statement .reset := by unfold Statement; decide

end Sys2Proof.Laws.EncodingFitsRow
end

