-- ==== Sys2Proof/Laws/Step.lean ====
section
/-! SUPPORT. What a step can answer, said once. -/

namespace Sys2Proof.Machine

/-- If a step answers a next state, it ran the first event or the first cycle of the trace. -/
theorem step_next_cases {s t : State} (h : step s = .next t) :
    (∃ w rest i, s.cfg.Admissible ∧ s.trace = .events (w :: rest) ∧ decode w = .event i ∧
      exec i { s with trace := .events rest } = .next t) ∨
    (∃ p rest, s.cfg.ClockedAdmissible ∧ s.trace = .cycles (p :: rest) ∧
      cycle p { s with trace := .cycles rest } = .next t) := by
  unfold step at h
  split at h
  · rename_i i u hf
    unfold fetch at hf
    split at hf
    · split at hf
      · split at hf
        · split at hf
          · cases hf
          · split at hf
            · cases hf
              exact .inl ⟨_, _, _, ‹_›, ‹_›, ‹_›, h⟩
            · cases hf
        · cases hf
      · cases hf
    · split at hf
      · split at hf <;> cases hf
      · cases hf
  · rename_i p u hf
    unfold fetch at hf
    split at hf
    · split at hf
      · split at hf
        · split at hf
          · cases hf
          · split at hf <;> cases hf
        · cases hf
      · cases hf
    · split at hf
      · split at hf
        · cases hf
        · cases hf; exact .inr ⟨_, _, ‹_›, ‹_›, h⟩
      · cases hf
  · cases h

end Sys2Proof.Machine
end

