-- ==== Sys2Proof/Tests/Slice0.lean ====
section
/-! SUPPORT. Tests. Expected values are those of 95_test_vectors.md (its label stands in the docstring) or worked out from the
rule cited. Then one witness per statement with hypotheses: a concrete state and operands that meet all of them. -/

namespace Sys2Proof.Tests

open Sys2Proof Sys2Proof.Machine

/-! ## Helpers -/

/-- The next state of an outcome, if it is one. -/
def nextOf {α : Type} (o : Host.Outcome α Fault Refusal) : Option α :=
  match o with
  | .next t => some t
  | .fault _ => none
  | .refused _ => none

/-- The fault of an outcome, if it is one. -/
def faultOf {α : Type} (o : Host.Outcome α Fault Refusal) : Option Fault :=
  match o with
  | .next _ => none
  | .fault f => some f
  | .refused _ => none

/-- The refusal of an outcome, if it is one. -/
def refusalOf {α : Type} (o : Host.Outcome α Fault Refusal) : Option Refusal :=
  match o with
  | .next _ => none
  | .fault _ => none
  | .refused r => some r

theorem next_of_isSome {α : Type} {o : Host.Outcome α Fault Refusal} (h : (nextOf o).isSome = true) : ∃ t, o = .next t := by
  cases o <;> simp_all [nextOf]

/-- A framebuffer holding the given bytes from address 0 on. -/
def fbOf (a : Nat) (bytes : List Byte) : Memory :=
  match bytes with
  | [] => []
  | b :: rest => (a, b) :: fbOf (a + 1) rest

/-- A state of a configuration in the notation of 95_test_vectors.md: (VSKIP, ALINE, ROW, REP, ET, RUN) and the framebuffer. -/
def st (c : Config) (vskip aline row rep et : Nat) (run : Bool) (fb : Memory) : State :=
  { State.resetOf c with vskip := vskip, aline := aline, row := row, rep := rep, et := et, run := run, fb := fb }

/-- The notation of 95_test_vectors.md: (VSKIP, ALINE, ROW, REP, ET, RUN). -/
structure Arch where
  vskip : Nat
  aline : Nat
  row : Nat
  rep : Nat
  et : Nat
  run : Bool
  deriving DecidableEq, Repr

/-- The architectural registers of a state in that notation. -/
def arch (s : State) : Arch := ⟨s.vskip, s.aline, s.row, s.rep, s.et, s.run⟩

/-- The framebuffer of program 1. -/
def fb1 : Memory := fbOf 0 [0xE4#8, 0x1B#8, 0xFF#8, 0x00#8]

/-! ## Ill-formed configurations, one for each check of 00_scope.md R12 -/

theorem test_tiny_admissible : Config.tiny.ClockedAdmissible := by decide
theorem test_ref_admissible : Config.ref.Admissible := by decide
theorem test_ref_is_event_level_only : ¬ Config.ref.ClockedAdmissible := by decide
theorem test_check_visible_lines : ¬ Config.Admissible { Config.tiny with visibleLines := 0 } := by decide
theorem test_check_bytes_per_row : ¬ Config.Admissible { Config.tiny with bytesPerRow := 0, bytesPerVisibleRow := 0 } := by decide
theorem test_check_bytes_per_visible_row : ¬ Config.Admissible { Config.tiny with bytesPerVisibleRow := 0 } := by decide
theorem test_check_visible_row_fits : ¬ Config.Admissible { Config.tiny with bytesPerVisibleRow := 3 } := by decide
theorem test_check_vscale : ¬ Config.Admissible { Config.tiny with vscale := 0 } := by decide
theorem test_check_frame_lines : ¬ Config.Admissible { Config.tiny with frameLines := 0, skipLines := 0 } := by decide
theorem test_check_skip_lines : ¬ Config.Admissible { Config.tiny with skipLines := 8 } := by decide
theorem test_check_skip_width : ¬ Config.Admissible { Config.tiny with skipW := 1 } := by decide
theorem test_check_row_width : ¬ Config.Admissible { Config.tiny with rowW := 1 } := by decide
theorem test_check_rep_width : ¬ Config.Admissible { Config.tiny with repW := 0 } := by decide
theorem test_check_framebuffer_addressable : ¬ Config.Admissible { Config.tiny with addrW := 1 } := by decide
theorem test_check_address_field : ¬ Config.Admissible { Config.tiny with addrW := 17 } := by decide
theorem test_check_window_empty : ¬ Config.Admissible { Config.tiny with window := 0 } := by decide
theorem test_check_window_field : ¬ Config.Admissible { Config.tiny with window := 256 } := by decide
theorem test_check_ncolor : ¬ Config.Admissible { Config.tiny with ncolor := 3 } := by decide
theorem test_check_cps : ¬ Config.ClockedAdmissible { Config.tiny with cps := 0 } := by decide
theorem test_check_line_fits_period : ¬ Config.ClockedAdmissible { Config.tiny with linePeriod := 24 } := by decide
theorem test_check_hsync_empty : ¬ Config.ClockedAdmissible { Config.tiny with hsyncWidth := 0 } := by decide
theorem test_check_hsync_fits : ¬ Config.ClockedAdmissible { Config.tiny with hsyncWidth := 32 } := by decide
theorem test_check_vsync_empty : ¬ Config.ClockedAdmissible { Config.tiny with vsyncWidth := 0 } := by decide
theorem test_check_vsync_fits : ¬ Config.ClockedAdmissible { Config.tiny with vsyncWidth := 256 } := by decide

/-! ## Encodings: family I, every word both ways, and every kind of invalid word -/

theorem test_decode_nop : decode 0x00000000#32 = .event .nop ∧ encode .nop = 0x00000000#32 := by decide
theorem test_decode_vtick : decode 0x10000000#32 = .event .vtick ∧ encode .vtick = 0x10000000#32 := by decide
theorem test_decode_htick : decode 0x200000FF#32 = .event (.htick 255#8) ∧ encode (.htick 255#8) = 0x200000FF#32 := by decide
theorem test_decode_fbwr : decode 0x3000011B#32 = .event (.fbwr 1#16 0x1B#8) ∧ encode (.fbwr 1#16 0x1B#8) = 0x3000011B#32 := by
  decide
theorem test_decode_fbwr_out_of_range : decode 0x30FFFFFF#32 = .event (.fbwr 65535#16 0xFF#8) := by decide
theorem test_decode_fbrd : decode 0x40003100#32 = .event (.fbrd 49#16) ∧ encode (.fbrd 49#16) = 0x40003100#32 := by decide
theorem test_decode_rdet : decode 0x50000000#32 = .event .rdet ∧ encode .rdet = 0x50000000#32 := by decide
theorem test_decode_start : decode 0x60000000#32 = .event .start ∧ encode .start = 0x60000000#32 := by decide
theorem test_decode_stop : decode 0x70000000#32 = .event .stop ∧ encode .stop = 0x70000000#32 := by decide
theorem test_decode_reset : decode 0xF0000000#32 = .event .reset ∧ encode .reset = 0xF0000000#32 := by decide
theorem test_invalid_unused_field : decode 0x00000001#32 = .invalid .nonzeroD ∧ decode 0x10000100#32 = .invalid .nonzeroA ∧
    decode 0x20000100#32 = .invalid .nonzeroA ∧ decode 0x40003101#32 = .invalid .nonzeroD ∧
    decode 0xF0000001#32 = .invalid .nonzeroD := by decide
theorem test_invalid_z : decode 0x21000000#32 = .invalid .nonzeroZ ∧ decode 0x31000000#32 = .invalid .nonzeroZ := by decide
theorem test_invalid_op : decode 0x80000000#32 = .invalid .reservedOp ∧ decode 0xE0000000#32 = .invalid .reservedOp := by decide
theorem test_table_word : decodeTableWord 32 0x300780FF = some (.fbwr 1920#16 0xFF#8) ∧ decodeTableWord 32 0x90000000 = none := by
  decide

/-! ## VTICK: family A -/

/-- A1, A8. -/
theorem test_vtick_result :
    (nextOf (exec .vtick (st .tiny 0 3 2 0 0 true []))).map (fun t => (arch t, t.records)) =
      some (⟨2, 65535, 0, 0, 1, true⟩, []) := by decide

/-- A3: ET wraps. -/
theorem test_vtick_et_wraps :
    (nextOf (exec .vtick (st .tiny 2 65535 0 0 4294967295 true []))).map arch = some ⟨2, 65535, 0, 0, 0, true⟩ := by decide

/-! ## HTICK: families B, C, D -/

/-- B4: the skip test comes first. B3: a jitter outside the window is harmless there. -/
theorem test_htick_skip :
    (nextOf (exec (.htick 255#8) (st .tiny 1 7 2 1 0 true []))).map (fun t => (arch t, t.records)) =
      some (⟨0, 7, 2, 1, 0, true⟩, [.noPixels]) := by decide

/-- C2: REP wraps, ROW advances, the samples in order of emission. -/
theorem test_htick_emit :
    (nextOf (exec (.htick 2#8) (st .tiny 0 0 0 1 0 true fb1))).map (fun t => (arch t, t.records)) =
      some (⟨0, 1, 1, 0, 0, true⟩, [.pixels 8 2 [3, 2, 1, 0, 0, 1, 2, 3]]) := by decide

/-- C10: a byte past the visible ones is never read. -/
theorem test_htick_row_base :
    (nextOf (exec (.htick 0#8)
        (st { Config.tiny with bytesPerRow := 3 } 0 65535 1 0 0 true (fbOf 0 [0x00#8, 0x55#8, 0xAA#8, 0xFF#8, 0x00#8, 0x55#8])))).map
      State.records = some [.pixels 8 2 [3, 3, 3, 3, 0, 0, 0, 0]] := by decide

/-- C6: the first jitter outside the window. -/
theorem test_htick_jitter : faultOf (exec (.htick 4#8) (st .tiny 0 65535 0 0 0 true fb1)) = some (.timingViolation .jitter) := by
  decide

/-- D2. -/
theorem test_htick_idle :
    (nextOf (exec (.htick 255#8) (st .tiny 0 3 2 0 0 true []))).map (fun t => (arch t, t.records)) =
      some (⟨0, 3, 2, 0, 0, true⟩, [.noPixels]) := by decide

/-- A7, G5: with RUN = 0 there is no step. -/
theorem test_handlers_disarmed : refusalOf (exec .vtick State.reset) = some .handlerDisarmed ∧
    refusalOf (exec (.htick 0#8) State.reset) = some .handlerDisarmed := by decide

/-! ## Packing: family E -/

theorem test_samples : samplesOfByte 0xE4#8 = [3, 2, 1, 0] ∧ samplesOfByte 0x34#8 = [0, 3, 1, 0] ∧
    samplesOfByte 0x80#8 = [2, 0, 0, 0] ∧ samplesOfByte 0x01#8 = [0, 0, 0, 1] := by decide

theorem test_pixel_addresses : pixelAddr .ref 5 2 = 49 ∧ pixelPos 5 = 1 ∧ pixelAddr .ref 95 79 = 1919 ∧ pixelPos 95 = 3 ∧
    pixelAddr .ref 0 79 = 1896 := by decide

/-! ## Host access: family F -/

/-- F2, F3: the last byte and the first address out of range. -/
theorem test_fbwr_last_byte :
    (nextOf (exec (.fbwr 1919#16 0xFF#8) (st .ref 0 0 0 0 0 false (fbOf 1918 [0x11#8])))).map State.fb =
      some [(1918, 0x11#8), (1919, 0xFF#8)] := by decide

theorem test_fbwr_out_of_range : (nextOf (exec (.fbwr 4#16 0x12#8) (st .tiny 2 65535 0 0 0 false fb1))).map State.fb = some fb1 := by
  decide

/-- F1, F3. -/
theorem test_fbrd : (nextOf (exec (.fbrd 1#16) (st .tiny 2 65535 0 0 0 false fb1))).map State.returned = some [.byte 0x1B#8] ∧
    (nextOf (exec (.fbrd 65535#16) (st .tiny 2 65535 0 0 0 false fb1))).map State.returned = some [.byte 0#8] := by decide

/-- F6. -/
theorem test_rdet : (nextOf (exec .rdet (st .tiny 2 65535 0 0 7 false []))).map State.returned = some [.elapsed 7] := by decide

/-- F5. -/
theorem test_nop : nextOf (exec .nop (st .tiny 2 65535 0 0 7 true fb1)) = some (st .tiny 2 65535 0 0 7 true fb1) := by decide

/-! ## Lifecycle: family G -/

/-- G1, and the clocked writes of R100. -/
theorem test_start :
    (nextOf (exec .start { State.reset with hcnt := 9, vcnt := 41, hpend := true, vpend := true })).map
      (fun t => (arch t, t.hcnt, t.vcnt, t.vpend, t.hpend)) = some (⟨2, 65535, 0, 0, 0, true⟩, 0, 0, false, false) := by decide

/-- G2: and the timer counters keep their values (R102). -/
theorem test_stop :
    (nextOf (exec .stop { st .tiny 0 2 1 1 7 true fb1 with hcnt := 9, vcnt := 41, hpend := true })).map
      (fun t => (arch t, t.hcnt, t.vcnt, t.hpend)) = some (⟨0, 2, 1, 1, 7, false⟩, 9, 41, false) := by decide

/-- G4. -/
theorem test_reset :
    (nextOf (exec .reset (st .tiny 0 2 1 1 99 true fb1))).map (fun t => (arch t, t.fb)) =
      some (⟨2, 65535, 0, 0, 0, false⟩, fb1) := by decide

/-! ## The step, the clocked realisation and the host side -/

/-- The placed word is the one the next step runs. -/
theorem test_fetch_word : nextOf (step (State.reset.withFetchWord 32 0x3000011B)) =
    some { State.reset with fb := [(1, 0x1B#8)] } := by decide

/-- A trace with an invalid word is refused before its first event (30_encoding.md R68). -/
theorem test_trace_refused : refusalOf (step { State.reset with trace := .events [0x60000000#32, 0x21000000#32] }) =
    some .invalidWord ∧ refusalOf (step State.reset) = some .traceEnded := by decide

/-- Program 4, cycle 105: an entry at line phase 4 on a pixel-bearing line leaves DLY = 2. -/
theorem test_entry_delay :
    (nextOf (cycle ackPins { st .tiny 0 65535 0 0 0 true fb1 with hcnt := 4, vcnt := 100, hpend := true })).map
      (fun t => (t.seq, t.dly, t.hpend, t.hcnt)) = some (.align, 2, false, 5) := by decide

/-- Program 4, cycle 116: line phase 15, the second byte is read; cycle 124: the body ends. -/
theorem test_emit_cycles :
    (nextOf (cycle quietPins { st .tiny 0 65535 0 0 0 true fb1 with
      hcnt := 15, vcnt := 111, seq := .emit, k := 3, ph := 1, curb := 0xE4#8, color := 0 })).map
        (fun t => (t.k, t.ph, t.curb, t.color)) = some (4, 0, 0x1B#8, 0) ∧
    (nextOf (cycle quietPins { st .tiny 0 65535 0 0 0 true fb1 with
      hcnt := 23, vcnt := 119, seq := .emit, k := 7, ph := 1, curb := 0x1B#8, color := 3 })).map
        (fun t => (arch t, t.seq, t.color)) = some (⟨0, 0, 0, 1, 0, true⟩, .idle, 0) := by decide

/-- 42_lifecycle.md R104, corner cases: rst at line phase 15 of that line, the last cycle of the fourth sample. -/
theorem test_line_cut_short :
    (nextOf (cycle { quietPins with rst := true } { st .tiny 0 65535 0 0 0 true fb1 with
      hcnt := 15, vcnt := 111, seq := .emit, k := 3, ph := 1, curb := 0xE4#8, color := 0 })).map
        (fun t => (arch t, t.records)) = some (⟨2, 65535, 0, 0, 0, false⟩, [.cutShort 8 2 [3, 2, 1, 0] 16]) ∧
    ((List.range 32).map (LineRecord.cutShort 8 2 [3, 2, 1, 0] 13).colorAt) =
      List.replicate 8 0 ++ [3, 3, 2, 2, 1] ++ List.replicate 19 0 := by decide

/-- J3: a horizontal tick with the request of the line before still pending. J6: STOP in such a cycle. -/
theorem test_lost_tick :
    faultOf (cycle quietPins { st .tiny 2 65535 0 0 0 true [] with hcnt := 31, vcnt := 127, hpend := true }) =
      some (.timingViolation .lostTick) ∧
    (nextOf (cycle { quietPins with hCmd := 7 } { st .tiny 2 65535 0 0 0 true [] with hcnt := 31, vcnt := 127 })).map
      (fun t => (t.run, t.hpend)) = some (false, false) := by decide

/-- H1: SETPIXEL 5, 2, 3; 6, 2, 1; 5, 2, 0 on the same byte. -/
theorem test_set_pixel : setSample 0x00#8 (pixelPos 5) 3#2 = 0x30#8 ∧ setSample 0x30#8 (pixelPos 6) 1#2 = 0x34#8 ∧
    setSample 0x34#8 (pixelPos 5) 0#2 = 0x04#8 ∧ setSample 0xFF#8 (pixelPos 95) 2#2 = 0xFE#8 := by decide

/-- H5: the two rectangles; H6: a pixel read and one out of bounds. -/
theorem test_pseudo_operations :
    (nextOf ((fillRect .tiny 2 0 4 5 1).run [] (st .tiny 2 65535 0 0 0 false (fbOf 0 [0#8, 0#8, 0#8, 0#8])))).map
      (fun r => r.1.fb) = some (fbOf 0 [0x05#8, 0x50#8, 0x05#8, 0x50#8]) ∧
    (nextOf ((getPixel .tiny 6 0).run [] (st .tiny 2 65535 0 0 0 false fb1))).map Prod.snd = some 2 ∧
    (nextOf ((getPixel .tiny 8 0).run [] (st .tiny 2 65535 0 0 0 false fb1))).map Prod.snd = some 0 := by decide

/-- 30_encoding.md R73: the text of events. -/
theorem test_trace_text :
    parseTrace "START\nHTICK 3 ; skip\nFBWR 0x10, 0x1B\nFBRD 49\n".toList =
      some [.start, .htick 3#8, .fbwr 16#16 0x1B#8, .fbrd 49#16] ∧
    parseTrace "FBWR 1, 0x100".toList = none ∧ String.ofList (eventText (.fbwr 49#16 0x30#8)) = "FBWR 49, 0x30" := by decide

/-! ## Witnesses: for each statement with hypotheses, states and operands that meet them together -/

/-- The clauses of State.Inv as one decidable check, for the witnesses. -/
abbrev InvCheck (s : State) : Prop :=
  (s.cfg.Admissible ∧ s.vskip ≤ s.cfg.skipLines ∧ s.row ≤ s.cfg.visibleLines ∧ s.rep < s.cfg.vscale ∧
    s.aline < 2 ^ s.cfg.alineW ∧ s.et < 2 ^ s.cfg.etW ∧ s.fb.wf = true ∧ s.fb.all (fun c => decide (c.1 < s.cfg.fbSize)) = true) ∧
  ((s.seq = .idle → s.color = blank) ∧ (s.run = false → s.vpend = false ∧ s.hpend = false ∧ s.seq = .idle) ∧
    (s.seq ≠ .idle → s.lineCase = .emit) ∧
    (s.hcnt < s.cfg.linePeriod ∧ s.vcnt < s.cfg.framePeriod ∧ s.vcnt % s.cfg.linePeriod = s.hcnt)) ∧
  (s.seq = .align → s.dly < s.cfg.window ∧ s.hcnt + s.dly = s.cfg.entryBase + s.cfg.window ∧ s.color = blank) ∧
  (s.seq = .emit → (s.k < s.cfg.samplesPerLine ∧ s.ph < s.cfg.cps ∧ s.hcnt = s.cfg.emitStart + s.k * s.cfg.cps + s.ph) ∧
    s.curb = s.memRead (rowAddr s.cfg s.row (s.k / 4)) ∧ s.color = colorMap (sample s.curb (s.k % 4))) ∧
  (s.trace = .events [] → s.seq = .idle)

theorem mem_of_read {m : Memory} {a : Nat} (h : (m.read a).isSome = true) : ∃ v, (a, v) ∈ m := by
  induction m with
  | nil => simp at h
  | cons c m ih =>
    obtain ⟨b, v⟩ := c
    by_cases hb : b = a
    · exact ⟨v, by simp [hb]⟩
    · obtain ⟨u, hu⟩ := ih (by simpa [Memory.read, hb] using h)
      exact ⟨u, List.mem_cons_of_mem _ hu⟩

/-- A state that passes the check meets the invariant. -/
theorem inv_of_check {s : State} (ht : s.trace = .events [] ∨ s.trace = .cycles [quietPins]) (h : InvCheck s) : s.Inv := by
  obtain ⟨⟨h1, h2, h3, h4, h5, h6, h7, h8⟩, ⟨h9, h10, h11, h12⟩, h13, h14, h15⟩ := h
  refine ⟨h1, ⟨h2, h3, h4⟩, ⟨h5, h6⟩, ⟨h7, fun a ha => ?_⟩, h9, h10, h11, fun _ => h12, h13,
    fun hs => ?_, ?_⟩
  · obtain ⟨v, hv⟩ := mem_of_read ha
    simpa using List.all_eq_true.mp h8 _ hv
  · obtain ⟨⟨ha, hb, hc⟩, hd, he⟩ := h14 hs
    exact ⟨ha, hb, hc, hd, he⟩
  · unfold State.EventsAreAtomic
    rcases ht with ht | ht
    · rw [ht]; exact h15 ht
    · rw [ht]; trivial

/-- TINY, running, at the start of a pixel-bearing line at line phase `phase` of the fourth line period. -/
def onLine (phase : Nat) : State := { st .tiny 0 65535 0 0 0 true fb1 with hcnt := phase, vcnt := 96 + phase }

/-- The same with the horizontal request pending: ready for an entry. -/
def atEntry (phase : Nat) : State := { onLine phase with hpend := true }

/-- The same in the alignment delay. -/
def inAlign : State := { onLine 5 with seq := .align, dly := 2, trace := .cycles [quietPins] }

/-- The same on the last sample of the first byte. -/
def inEmit : State :=
  { onLine 15 with seq := .emit, k := 3, ph := 1, curb := 0xE4#8, color := 0, trace := .cycles [quietPins] }

/-- TINY stopped in the middle of a frame. -/
def stopped : State := { st .tiny 0 2 1 1 7 false fb1 with hcnt := 9, vcnt := 41 }

/-- A host access in every cycle, with an acknowledge as well: what a body in progress must ignore. -/
def busyPins : PinsIn := { rst := false, hCmd := 3, hAddr := 0, hWdata := 0xFF#8, iack := true }

/-- An FBRD on the host port. -/
def readPins : PinsIn := { quietPins with hCmd := 4, hAddr := 3 }

/-- The smallest line with pixels: one byte, frames of two lines, seven cycles a line. -/
def mini : Config :=
  { Config.tiny with
    visibleLines := 1, bytesPerRow := 1, bytesPerVisibleRow := 1, frameLines := 2, skipLines := 1, vscale := 1,
    linePeriod := 7, hsyncWidth := 1, vsyncWidth := 1, window := 1, entryBase := 0, cps := 1 }

/-- That configuration just after START. -/
def miniStart : State := { st mini 1 65535 0 0 0 true (fbOf 0 [0x1B#8]) with trace := .cycles [quietPins] }

/-- Fifteen cycles: the first line, then both requests of cycle 14 acknowledged, the vertical one first. -/
def miniPins : List PinsIn := List.replicate 7 quietPins ++ ackPins :: List.replicate 6 quietPins ++ [ackPins]

theorem inv_stopped : stopped.Inv := inv_of_check (.inl rfl) (by decide)
theorem inv_atEntry : (atEntry 3).Inv := inv_of_check (.inl rfl) (by decide)
theorem inv_inAlign : inAlign.Inv := inv_of_check (.inr rfl) (by decide)
theorem inv_inEmit : inEmit.Inv := inv_of_check (.inr rfl) (by decide)
theorem inv_miniStart : miniStart.Inv := inv_of_check (.inr rfl) (by decide)
theorem mini_admissible : mini.ClockedAdmissible := by decide

theorem witness_DecodeFollowsOpcodeTable :
    0x200000FF#32 &&& rowMask (.htick 0#8) = rowMatch (.htick 0#8) ∧ 0x200000FF#32 &&& rowMask (.htick 255#8) = rowMatch (.htick 255#8) ∧
    operandsFrom 0x200000FF#32 (.htick 255#8) ∧ decode 0x200000FF#32 = .event (.htick 255#8) :=
  ⟨by decide, by decide, rfl, by decide⟩

theorem witness_InvalidWordsRefuseTheTrace_fields :
    (8 ≤ (opField 0x80000000#32).toNat ∧ (opField 0xE0000000#32).toNat ≤ 14) ∧ zField 0x01000000#32 ≠ 0 ∧
    (aField 0x20000100#32 ≠ 0 ∧ (opField 0x20000100#32).toNat ≠ 3 ∧ (opField 0x20000100#32).toNat ≠ 4) ∧
    dField 0x40000001#32 ≠ 0 ∧ (opField 0x40000001#32).toNat ≠ 2 ∧ (opField 0x40000001#32).toNat ≠ 3 := by decide

theorem witness_InvalidWordsRefuseTheTrace_trace :
    ∃ (s : State) (words : List EventWord) (w : EventWord), s.cfg.Admissible ∧ s.trace = .events words ∧ w ∈ words ∧
      wordValid w = false :=
  ⟨{ State.reset with trace := .events [0x60000000#32, 0x80000000#32] }, _, 0x80000000#32, by decide, rfl, by decide, by decide⟩

theorem witness_StepRunsDecodedEvent :
    ∃ (s : State) (w : EventWord) (rest : List EventWord) (i : Instr), s.cfg.Admissible ∧ s.trace = .events (w :: rest) ∧
      rest.all wordValid = true ∧ decode w = .event i :=
  ⟨{ State.reset with trace := .events [0x60000000#32, 0x20000003#32] }, _, _, .start, by decide, rfl, by decide, by decide⟩

theorem witness_StepRunsClockCycle :
    ∃ (p : PinsIn) (rest : List PinsIn), inEmit.cfg.ClockedAdmissible ∧ inEmit.trace = .cycles (p :: rest) :=
  ⟨_, _, by decide, rfl⟩

theorem witness_StepRefusesInadmissibleConfiguration :
    ¬ (State.resetOf { Config.tiny with vscale := 0 }).cfg.Admissible ∧
    ¬ ({ State.resetOf .ref with trace := .cycles [quietPins] } : State).cfg.ClockedAdmissible := by decide

theorem witness_StepKeepsConfiguration : ∃ t, step (State.reset.withFetchWord 32 0x60000000) = .next t :=
  next_of_isSome (by decide)

theorem witness_VtickResult : (onLine 5).run = true := rfl

theorem witness_HandlerEventsNeedRun : stopped.run = false := rfl

theorem witness_ElapsedCounterCountsVticks :
    Instr.reset ∉ [Instr.vtick, .htick 0, .stop, .start, .vtick] ∧
    (st .tiny 2 65535 0 0 4294967295 true []).et < 2 ^ Config.tiny.etW ∧
    ∃ t, runEvents [.vtick, .htick 0, .stop, .start, .vtick] (st .tiny 2 65535 0 0 4294967295 true []) = .next t :=
  ⟨by decide, by decide, next_of_isSome (by decide)⟩

theorem witness_HtickSkipLine : (st .tiny 1 65535 0 0 0 true []).run = true ∧ (st .tiny 1 65535 0 0 0 true []).vskip ≠ 0 := by decide

theorem witness_HtickIdleLine :
    (st .tiny 0 3 2 0 0 true []).run = true ∧ (st .tiny 0 3 2 0 0 true []).vskip = 0 ∧
    Config.tiny.visibleLines ≤ (st .tiny 0 3 2 0 0 true []).row := by decide

theorem witness_HtickEmitLine :
    (st .tiny 0 2 1 1 0 true fb1).run = true ∧ (st .tiny 0 2 1 1 0 true fb1).vskip = 0 ∧
    (st .tiny 0 2 1 1 0 true fb1).row < Config.tiny.visibleLines ∧ (3#8).toNat < Config.tiny.window := by decide

theorem witness_EmitLineLeavesOutputBlank :
    (onLine 3).run = true ∧ (onLine 3).vskip = 0 ∧ (onLine 3).row < Config.tiny.visibleLines ∧
    (0#8).toNat < Config.tiny.window := by decide

theorem witness_HtickJitterFault :
    (st .tiny 0 2 1 1 0 true fb1).run = true ∧ (st .tiny 0 2 1 1 0 true fb1).vskip = 0 ∧
    (st .tiny 0 2 1 1 0 true fb1).row < Config.tiny.visibleLines ∧ Config.tiny.window ≤ (4#8).toNat := by decide

theorem witness_JitterDoesNotChangeTheResult :
    (st .tiny 1 65535 0 0 0 true []).lineCase ≠ .emit ∧ (st .tiny 0 3 2 0 0 true []).lineCase ≠ .emit ∧
    (0#8).toNat < Config.tiny.window ∧ (3#8).toNat < Config.tiny.window := by decide

theorem witness_AlignmentReachesEmitStart : 0 < Config.tiny.window ∧ 3 < Config.tiny.window := by decide

theorem witness_EachHtickAppendsOneRecord :
    (∃ t, exec (.htick 3#8) (onLine 3) = .next t ∧ handlerOf (.htick 3#8) = some .horizontal) ∧
    ∃ t, exec .vtick (onLine 3) = .next t ∧ handlerOf .vtick ≠ some .horizontal :=
  ⟨⟨_, rfl, rfl⟩, ⟨_, rfl, by decide⟩⟩

theorem witness_FrameLinesFollowRowSelection :
    ∃ (s : State) (js : List Byte), (s.cfg.Admissible ∧ s.run = true ∧ s.vskip = s.cfg.skipLines ∧ s.row = 0 ∧ s.rep = 0 ∧
      s.aline = s.cfg.alineSentinel) ∧ (∀ j ∈ js, j.toNat < s.cfg.window) ∧ s.cfg.skipLines < js.length :=
  ⟨st .tiny 2 65535 0 0 1 true fb1, [0, 3, 1, 2, 0, 3, 2, 1, 0], by decide, by decide, by decide⟩

theorem witness_FbwrStoresOneByte : (3#16).toNat < stopped.cfg.fbSize ∧ stopped.cfg.fbSize ≤ (4#16).toNat := by decide

theorem witness_OnlyFbwrChangesFramebuffer :
    (∃ t, exec .reset (onLine 3) = .next t) ∧ ∀ (a : Addr) (d : Byte), Instr.reset ≠ .fbwr a d :=
  ⟨⟨_, rfl⟩, fun _ _ h => by cases h⟩

theorem witness_ReadsReturnTheLatestWrite :
    ∃ t, runEvents [.fbwr 1 0x55#8, .htick 0, .fbwr 1 0xAA#8, .reset] (onLine 3) = .next t := ⟨_, rfl⟩

theorem witness_RowAddressesLieInFramebuffer :
    (st .tiny 0 2 1 1 0 true fb1).cfg.Admissible ∧ (st .tiny 0 2 1 1 0 true fb1).lineCase = .emit ∧
    1 < Config.tiny.bytesPerVisibleRow := by decide

theorem witness_ContextsWriteOnlyTheirState :
    (contextOf .start = .host ∧ ∃ t, exec .start stopped = .next t ∧ t.run ≠ stopped.run) ∧
    (contextOf .stop = .host ∧ ∃ t, exec .stop (onLine 3) = .next t) ∧
    (contextOf .vtick = .vertical ∧ ∃ t, exec .vtick (onLine 3) = .next t) ∧
    (contextOf (.htick 0) = .horizontal ∧ ∃ t, exec (.htick 0) (onLine 3) = .next t) ∧
    (∃ t, exec (.htick 9) (st .tiny 1 65535 0 0 0 true []) = .next t ∧ (st .tiny 1 65535 0 0 0 true []).lineCase ≠ .emit) ∧
    (onLine 3).lineCase ≠ .skip ∧
    contextOf .reset = .reset ∧ ∃ t, exec .reset stopped = .next t :=
  ⟨⟨rfl, _, rfl, by decide⟩, ⟨rfl, _, rfl⟩, ⟨rfl, _, rfl⟩, ⟨rfl, _, rfl⟩, ⟨_, rfl, by decide⟩, by decide, rfl, _, rfl⟩

theorem witness_CounterBoundsHoldAfterEveryEvent :
    Config.ref.Admissible ∧ (atEntry 3).cfg.Admissible ∧ (atEntry 3).InBounds ∧ (∃ t, exec (.htick 3) (atEntry 3) = .next t) ∧
    (st .tiny 255 7 255 255 0 true []).run = true ∧ (3#8).toNat < Config.tiny.window :=
  ⟨by decide, by decide, inv_atEntry.bounds, ⟨_, rfl⟩, rfl, by decide⟩

theorem witness_StepKeepsInvariant_clocked :
    (inAlign.Inv ∧ ∃ t, step inAlign = .next t) ∧ (inEmit.Inv ∧ ∃ t, step inEmit = .next t) ∧
    miniStart.Inv ∧ ∃ t, step miniStart = .next t :=
  ⟨⟨inv_inAlign, next_of_isSome (by decide)⟩, ⟨inv_inEmit, next_of_isSome (by decide)⟩, inv_miniStart,
    next_of_isSome (by decide)⟩

theorem witness_StepKeepsInvariant_events :
    ∃ s : State, s.Inv ∧ s.trace = .events [0x20000003#32] ∧ ∃ t, step s = .next t := by
  refine ⟨(atEntry 3).withFetchWord 32 0x20000003, ?_, rfl, next_of_isSome (by decide)⟩
  have h := inv_atEntry
  exact ⟨h.admissible, h.bounds, h.widths, h.framebuffer, h.idleBlank, h.stopped, h.pixelBearing, h.timers, h.align, h.emit, rfl⟩

theorem witness_ResetMeetsInvariant : Config.ref.Admissible := by decide

theorem witness_ResetPinOverridesEverything : ({ busyPins with rst := true } : PinsIn).rst = true := rfl

theorem witness_AbandonedLineIsCutShort :
    (inAlign.Inv ∧ inAlign.cfg.ClockedAdmissible ∧ inAlign.seq ≠ .idle) ∧
    (inEmit.Inv ∧ inEmit.cfg.ClockedAdmissible ∧ inEmit.seq ≠ .idle) ∧ ({ busyPins with rst := true } : PinsIn).rst = true :=
  ⟨⟨inv_inAlign, by decide, by decide⟩, ⟨inv_inEmit, by decide, by decide⟩, rfl⟩

theorem witness_HostIsHeldOffUnlessReady :
    (atEntry 3).entered ackPins ≠ none ∧ inEmit.seq ≠ .idle ∧ busyPins.rst = false ∧ inEmit.hReady busyPins = false ∧
    ∃ t, cycle busyPins inEmit = .next t :=
  ⟨by decide, by decide, rfl, by decide, next_of_isSome (by decide)⟩

theorem witness_AcceptedCommandsAct :
    (stopped.hReady readPins = true ∧ stopped.lostTick readPins = false ∧ hostCommand readPins = .fbrd 3) ∧
    ((onLine 31).hReady { quietPins with hCmd := 5 } = true ∧ (onLine 31).lostTick { quietPins with hCmd := 5 } = false ∧
      (onLine 31).hTick = true ∧ hostCommand { quietPins with hCmd := 5 } = .rdet) := by decide

/-- START and STOP in a cycle with a horizontal tick that finds HPEND set (log 11). -/
theorem witness_AcceptedCommandsAct_override :
    ((atEntry 31).hReady { quietPins with hCmd := 6 } = true ∧ (atEntry 31).lostTick { quietPins with hCmd := 6 } = true ∧
      hostCommand { quietPins with hCmd := 6 } = .start) ∧
    (atEntry 31).hReady { quietPins with hCmd := 7 } = true ∧ (atEntry 31).lostTick { quietPins with hCmd := 7 } = true ∧
    hostCommand { quietPins with hCmd := 7 } = .stop := by decide

/-- A tick while the host waits, a tick in the cycle of a skip line's entry, both ends of the window, a cycle of a body, a
stopped block. -/
theorem witness_TicksSetTheirPendingFlags :
    ∀ c ∈ [(quietPins, onLine 31), (ackPins, { atEntry 31 with vskip := 1 }), (ackPins, atEntry 3), (ackPins, atEntry 6),
        (busyPins, { inEmit with hpend := true }), (readPins, stopped)],
      c.1.rst = false ∧ c.2.overridden c.1 = false ∧ c.2.lostTick c.1 = false ∧
      (c.2.entered c.1 = some .horizontal → c.2.lineCase = .emit →
        c.2.cfg.entryBase ≤ c.2.hcnt ∧ c.2.hcnt < c.2.cfg.entryBase + c.2.cfg.window) := by decide

/-- Both requests pending at line phase 0, as in cycle 261 of program 4. -/
theorem witness_VerticalEntryComesFirst :
    ∃ s : State, ackPins.rst = false ∧ ackPins.iack = true ∧ s.seq = .idle ∧ s.vpend = true ∧ s.hpend = true ∧
      s.lostTick ackPins = false :=
  ⟨{ onLine 0 with vcnt := 0, vpend := true, hpend := true }, by decide⟩

/-- Skip, idle, both ends of the window, and the phases next to it. -/
theorem witness_HorizontalEntryChoosesTheCase :
    (ackPins.rst = false ∧ ackPins.iack = true) ∧
    (∀ s ∈ [{ atEntry 31 with vskip := 1 }, { atEntry 2 with row := 2 }, atEntry 3, atEntry 6, atEntry 2, atEntry 7],
      s.seq = .idle ∧ s.vpend = false ∧ s.hpend = true) ∧
    ({ atEntry 31 with vskip := 1 } : State).vskip ≠ 0 ∧
    (({ atEntry 2 with row := 2 } : State).vskip = 0 ∧ Config.tiny.visibleLines ≤ ({ atEntry 2 with row := 2 } : State).row) ∧
    ((atEntry 3).hcnt = Config.tiny.entryBase + 0 ∧ (atEntry 6).hcnt = Config.tiny.entryBase + 3 ∧ 3 < Config.tiny.window) ∧
    ((atEntry 3).vskip = 0 ∧ (atEntry 3).row < Config.tiny.visibleLines) ∧
    (atEntry 2).hcnt < Config.tiny.entryBase ∧ Config.tiny.entryBase + Config.tiny.window ≤ (atEntry 7).hcnt := by decide

theorem witness_OnlyALostHorizontalTickFaults :
    (quietPins.rst = false ∧ (atEntry 31).hTick = true ∧ (atEntry 31).hpend = true ∧
      (atEntry 31).entered quietPins ≠ some .horizontal ∧ (atEntry 31).overridden quietPins = false) ∧
    ∃ s : State, s.vTick = true ∧ s.vpend = true ∧ s.lostTick quietPins = false ∧ s.lostTick ackPins = false ∧
      s.overridden quietPins = false ∧ s.overridden ackPins = false :=
  ⟨by decide, { onLine 31 with vcnt := 255, vpend := true }, by decide⟩

theorem witness_KeptContractNeverFaults :
    ((atEntry 3).Inv ∧ (atEntry 3).cfg.ClockedAdmissible ∧ envOk ackPins (atEntry 3) = true) ∧
    inEmit.Inv ∧ envOk busyPins { inEmit with hpend := true } = true :=
  ⟨⟨inv_atEntry, by decide, by decide⟩, inv_inEmit, by decide⟩

theorem witness_TimersCountModuloTheirPeriods :
    (miniStart.cfg.ClockedAdmissible ∧ miniStart.run = true ∧ miniStart.hcnt = 0 ∧ miniStart.vcnt = 0) ∧
    (∀ p ∈ miniPins, p.rst = false ∧ hostCommand p ≠ .start ∧ hostCommand p ≠ .stop) ∧
    ∃ t, runCycles miniPins miniStart = .next t :=
  ⟨by decide, by decide, next_of_isSome (by decide)⟩

theorem witness_VerticalTicksAreHorizontalTicks :
    ∃ s : State, s.Inv ∧ s.cfg.ClockedAdmissible ∧ s.vTick = true :=
  ⟨{ onLine 31 with vcnt := 255 }, inv_of_check (.inl rfl) (by decide), by decide, by decide⟩

theorem witness_ColourFollowsLineRecord :
    (inEmit.Inv ∧ inEmit.cfg.ClockedAdmissible ∧ inEmit.seq ≠ .idle) ∧ (atEntry 3).Inv ∧ (atEntry 3).seq = .idle :=
  ⟨⟨inv_inEmit, by decide, by decide⟩, inv_atEntry, rfl⟩

theorem witness_BodyRunsToBlankStart :
    (inEmit.Inv ∧ inEmit.cfg.ClockedAdmissible ∧ inEmit.seq ≠ .idle) ∧ (∀ p ∈ List.replicate 9 busyPins, p.rst = false) ∧
    inEmit.hcnt + (List.replicate 9 busyPins).length = inEmit.cfg.blankStart :=
  ⟨⟨inv_inEmit, by decide, by decide⟩, by decide, by decide⟩

theorem witness_DejitterHidesTheEntryPhase :
    (atEntry 3).Inv ∧ ((atEntry 3).cfg.ClockedAdmissible ∧ (atEntry 3).run = true ∧ (atEntry 3).seq = .idle ∧
      (atEntry 3).vpend = false ∧ (atEntry 3).hpend = true ∧ (atEntry 3).lineCase = .emit ∧
      (atEntry 3).hcnt = Config.tiny.entryBase ∧ 0 < Config.tiny.window ∧ 3 < Config.tiny.window) :=
  ⟨inv_atEntry, by decide⟩

theorem witness_CycleCommitsItsEvents :
    (inEmit.Inv ∧ inEmit.cfg.ClockedAdmissible ∧ ∃ t, cycle busyPins inEmit = .next t) ∧
    ∃ t, cycle { busyPins with rst := true } inEmit = .next t :=
  ⟨⟨inv_inEmit, by decide, next_of_isSome (by decide)⟩, next_of_isSome (by decide)⟩

/-- A run in which a reset cuts the entered line short. -/
theorem witness_ClockedRunRefinesItsEvents_reset :
    (atEntry 3).Inv ∧ (atEntry 3).cfg.ClockedAdmissible ∧ (atEntry 3).seq = .idle ∧
    ∃ t, runCycles [ackPins, quietPins, { quietPins with rst := true }] (atEntry 3) = .next t ∧ t.seq = .idle ∧
      t.records = [.cutShort 8 2 [] 6] :=
  ⟨inv_atEntry, by decide, rfl, _, rfl, rfl, rfl⟩

theorem witness_ClockedRunRefinesItsEvents :
    (miniStart.Inv ∧ miniStart.cfg.ClockedAdmissible ∧ miniStart.seq = .idle) ∧
    (∀ p ∈ miniPins, p.rst = false) ∧ ∃ t, runCycles miniPins miniStart = .next t ∧ t.seq = .idle :=
  ⟨⟨inv_miniStart, by decide, rfl⟩, by decide, _, rfl, rfl⟩

theorem witness_HandlerEntriesFollowTheTickPattern :
    (miniStart.Inv ∧ miniStart.cfg.ClockedAdmissible ∧ miniStart.run = true ∧ miniStart.hcnt = 0 ∧ miniStart.vcnt = 0 ∧
      miniStart.vpend = false ∧ miniStart.hpend = false ∧ miniStart.seq = .idle) ∧
    (∀ p ∈ miniPins, p.rst = false ∧ hostCommand p ≠ .start ∧ hostCommand p ≠ .stop) ∧
    (∃ t, runCycles miniPins miniStart = .next t) ∧
    (readOffRun false miniPins miniStart).filterMap handlerOf = [.horizontal, .vertical] :=
  ⟨⟨inv_miniStart, by decide⟩, by decide, next_of_isSome (by decide), by decide⟩

theorem witness_StoppedBlockStaysSilent :
    stopped.Inv ∧ stopped.run = false ∧ ∀ p ∈ [busyPins, readPins, ackPins], p.rst = false ∧ hostCommand p ≠ .start :=
  ⟨inv_stopped, rfl, by decide⟩

theorem witness_SetPixelReadsBack :
    (onLine 3).cfg.Admissible ∧ pixelInBounds (onLine 3).cfg 7 1 3 ∧
    (∀ g ∈ [[Instr.htick 0], [.vtick, .htick 1]], ∀ e ∈ g, handlerOf e ≠ none) ∧
    ∃ r, (setPixel (onLine 3).cfg 7 1 3).run [[.htick 0], [.vtick, .htick 1]] (onLine 3) = .next r :=
  ⟨by decide, by decide, by decide, next_of_isSome (by decide)⟩

theorem witness_ClearReadsBack :
    (onLine 3).cfg.Admissible ∧ (∀ g ∈ [[Instr.htick 0], [], [.vtick]], ∀ e ∈ g, handlerOf e ≠ none) ∧
    ∃ r, (clearScreen (onLine 3).cfg 2).run [[.htick 0], [], [.vtick]] (onLine 3) = .next r :=
  ⟨by decide, by decide, next_of_isSome (by decide)⟩

theorem witness_CopyReadsBack :
    (onLine 3).cfg.Admissible ∧ [0xE4#8, 0x1B#8, 0xFF#8, 0x00#8].length = (onLine 3).cfg.fbSize ∧
    (∀ g ∈ [[Instr.htick 0], [.vtick]], ∀ e ∈ g, handlerOf e ≠ none) ∧
    ∃ r, (copyScreen [0xE4#8, 0x1B#8, 0xFF#8, 0x00#8]).run [[.htick 0], [.vtick]] (onLine 3) = .next r :=
  ⟨by decide, by decide, by decide, next_of_isSome (by decide)⟩

/-- The last pixel, and the first column, row and colour out of bounds. -/
theorem witness_PixelOperationsComplete :
    stopped.cfg.Admissible ∧ pixelInBounds stopped.cfg 7 1 3 ∧ ¬ pixelInBounds stopped.cfg 8 1 3 ∧ ¬ pixelInBounds stopped.cfg 7 2 3 ∧
    ¬ pixelInBounds stopped.cfg 7 1 4 ∧ (7 < stopped.cfg.width ∧ 1 < stopped.cfg.height) ∧
    ¬ (8 < stopped.cfg.width ∧ 1 < stopped.cfg.height) := by decide

end Sys2Proof.Tests
end

section
/-! SUPPORT. What fetch answers, one rule per outcome: the head of an event trace, the head of a clocked run, and the refusal of
an inadmissible configuration (00_scope.md R3, R12). -/

namespace Sys2Proof.Machine

theorem wordValid_of_decode {w : EventWord} {i : Instr} (h : decode w = .event i) : wordValid w = true := by
  simp only [wordValid, h]

theorem fetch_events_cons {s : State} {w : EventWord} {rest : List EventWord} {i : Instr} (hc : s.cfg.Admissible)
    (ht : s.trace = .events (w :: rest)) (hrest : rest.all wordValid = true) (hw : decode w = .event i) :
    fetch s = .event i { s with trace := .events rest } := by
  have hall : (w :: rest).all wordValid = true := by
    rw [List.all_cons, wordValid_of_decode hw, hrest, Bool.and_self]
  simp only [fetch, ht, if_pos hc, if_pos hall, hw]

theorem fetch_cycles_cons {s : State} {p : PinsIn} {rest : List PinsIn} (hc : s.cfg.ClockedAdmissible)
    (ht : s.trace = .cycles (p :: rest)) : fetch s = .cycle p { s with trace := .cycles rest } := by
  simp only [fetch, ht, if_pos hc]

theorem fetch_events_inadmissible {s : State} {words : List EventWord} (hc : ¬ s.cfg.Admissible)
    (ht : s.trace = .events words) : fetch s = .refuse .inadmissibleConfig := by
  simp only [fetch, ht, if_neg hc]

theorem fetch_cycles_inadmissible {s : State} {pins : List PinsIn} (hc : ¬ s.cfg.ClockedAdmissible)
    (ht : s.trace = .cycles pins) : fetch s = .refuse .inadmissibleConfig := by
  simp only [fetch, ht, if_neg hc]

/-- A clocked run needs the event-level conditions too, so breaking one of those refuses a trace of either level. -/
theorem fetch_inadmissible {s : State} (hc : ¬ s.cfg.Admissible) : fetch s = .refuse .inadmissibleConfig := by
  cases ht : s.trace with
  | events words => exact fetch_events_inadmissible hc ht
  | cycles pins =>
    have hclocked : ¬ s.cfg.ClockedAdmissible := fun ⟨hadm, _⟩ => hc hadm
    exact fetch_cycles_inadmissible hclocked ht

end Sys2Proof.Machine
end

section
/-! SUPPORT. Where the bytes of a framebuffer row lie (20_memory.md R40): row by row below FB_SIZE, hence within ADDR_W bits. -/

namespace Sys2Proof

theorem Config.fbSize_le_addressSpace {c : Config} (h : c.Admissible) : c.fbSize ≤ 2 ^ c.addrW := by
  obtain ⟨-, -, -, -, -, -, -, -, -, -, hfb, -⟩ := h
  exact hfb

theorem Config.bytesPerVisibleRow_le {c : Config} (h : c.Admissible) : c.bytesPerVisibleRow ≤ c.bytesPerRow := by
  obtain ⟨-, -, -, hbpv, -⟩ := h
  exact hbpv

namespace Machine

theorem rowAddr_lt_fbSize {c : Config} {r i : Nat} (hr : r < c.visibleLines) (hi : i < c.bytesPerRow) :
    rowAddr c r i < c.fbSize :=
  calc r * c.bytesPerRow + i
      < r * c.bytesPerRow + c.bytesPerRow := Nat.add_lt_add_left hi _
    _ ≤ c.fbSize := Config.rowBase_le hr

end Machine

end Sys2Proof
end

section
/-! The scope statements (00_scope.md): what a step of either level is, which configurations it refuses, and where a
pixel-bearing line reads. -/

namespace Sys2Proof.Machine

/-- Settles O27: the EMIT case has ROW < VISIBLE_LINES, so the whole row lies below FB_SIZE, and FB_SIZE fits ADDR_W bits. -/
theorem rowAddressesLieInFramebuffer : Obligations.RowAddressesLieInFramebuffer := by
  intro s i hadm hemit hi
  obtain ⟨-, hrow⟩ := lineCase_emit.mp hemit
  have haddr : rowAddr s.cfg s.row i < s.cfg.fbSize :=
    rowAddr_lt_fbSize hrow (hi.trans_le (Config.bytesPerVisibleRow_le hadm))
  exact ⟨Nat.le_sub_of_add_le (Config.rowBase_le hrow), haddr,
    haddr.trans_le (Config.fbSize_le_addressSpace hadm)⟩

/-- Settles O5: the fetch of a valid event trace hands its first event to `exec`. -/
theorem stepRunsDecodedEvent : Obligations.StepRunsDecodedEvent := by
  intro s w rest i hadm ht hrest hw
  rw [step, fetch_events_cons hadm ht hrest hw]

/-- Settles O6: the fetch of a clocked run hands its first input ports to `cycle`. -/
theorem stepRunsClockCycle : Obligations.StepRunsClockCycle := by
  intro s p rest hadm ht
  rw [step, fetch_cycles_cons hadm ht]

/-- Settles O7: either refusal is decided by the fetch, before the trace's content is looked at. -/
theorem stepRefusesInadmissibleConfiguration : Obligations.StepRefusesInadmissibleConfiguration := by
  refine ⟨fun s hc => ?eventLevel, fun s pins hc ht => ?clocked⟩
  case eventLevel => rw [step, fetch_inadmissible hc]
  case clocked => rw [step, fetch_cycles_inadmissible hc ht]

end Sys2Proof.Machine
end

section
/-! SUPPORT. What an admissible configuration (00_scope.md R12) says of the counters: which bounds are positive, and where the
phases of a pixel-bearing line lie in LINE_PERIOD. -/

namespace Sys2Proof

theorem Config.vscale_pos {c : Config} (h : c.Admissible) : 0 < c.vscale := by
  obtain ⟨-, -, -, -, hvscale, -⟩ := h
  exact hvscale

theorem Config.window_pos {c : Config} (h : c.Admissible) : 0 < c.window := by
  obtain ⟨-, -, -, -, -, -, -, -, -, -, -, -, hwindow, -⟩ := h
  exact hwindow

theorem Config.samplesPerLine_pos {c : Config} (h : c.Admissible) : 0 < c.samplesPerLine := by
  obtain ⟨-, -, hbytes, -⟩ := h
  exact Nat.mul_pos (by decide) hbytes

theorem Config.alineSentinel_lt (c : Config) : c.alineSentinel < 2 ^ c.alineW :=
  Nat.sub_lt (Nat.two_pow_pos _) Nat.one_pos

theorem Config.cps_pos {c : Config} (h : c.ClockedAdmissible) : 0 < c.cps := by
  obtain ⟨-, hcps, -⟩ := h
  exact hcps

theorem Config.one_lt_linePeriod {c : Config} (h : c.ClockedAdmissible) : 1 < c.linePeriod := by
  obtain ⟨-, -, -, hpos, hlt, -⟩ := h
  omega

theorem Config.linePeriod_pos {c : Config} (h : c.ClockedAdmissible) : 0 < c.linePeriod :=
  Nat.zero_lt_of_lt (Config.one_lt_linePeriod h)

theorem Config.framePeriod_pos {c : Config} (h : c.ClockedAdmissible) : 0 < c.framePeriod := by
  obtain ⟨-, -, -, -, -, -, hvsync⟩ := h
  exact Nat.zero_lt_of_lt hvsync

theorem Config.blankStart_lt_linePeriod {c : Config} (h : c.ClockedAdmissible) : c.blankStart < c.linePeriod := by
  obtain ⟨-, -, hblank, -⟩ := h
  exact hblank

/-- The dejitter delay ends inside the line (R9: EMIT_START = ENTRY_BASE + W + 1, before BLANK_START). -/
theorem Config.emitStart_lt_linePeriod {c : Config} (h : c.ClockedAdmissible) : c.emitStart < c.linePeriod :=
  (Nat.le_add_right _ _).trans_lt (Config.blankStart_lt_linePeriod h)

/-- Every phase at which a sample is on the output comes before BLANK_START (R9). -/
theorem Config.samplePhase_lt_blankStart {c : Config} {k ph : Nat} (hk : k < c.samplesPerLine) (hph : ph < c.cps) :
    c.emitStart + k * c.cps + ph < c.blankStart := by
  have hsamples : (k + 1) * c.cps ≤ c.samplesPerLine * c.cps := Nat.mul_le_mul_right _ hk
  rw [Nat.add_mul, Nat.one_mul] at hsamples
  unfold Config.blankStart
  omega

end Sys2Proof
end

section
/-! SUPPORT. The configuration is an argument of the step (10_state.md R24): no event, no body of a cycle and no step writes it. -/

namespace Sys2Proof.Machine

@[simp] theorem alignStep_cfg (s : State) : s.alignStep.cfg = s.cfg := by
  unfold State.alignStep; split <;> rfl

@[simp] theorem nextSample_cfg (s : State) : s.nextSample.cfg = s.cfg := by
  unfold State.nextSample; split <;> rfl

@[simp] theorem emitStep_cfg (s : State) : s.emitStep.cfg = s.cfg := by
  unfold State.emitStep; split <;> [rfl; split <;> simp]

theorem exec_cfg {i : Instr} {s t : State} (h : exec i s = .next t) : t.cfg = s.cfg := by
  rcases exec_next_cases h with ⟨-, rfl⟩ | ⟨-, -, rfl⟩ | ⟨j, -, -, hline⟩ | ⟨a, d, -, rfl⟩ | ⟨a, -, rfl⟩ | ⟨-, rfl⟩ |
    ⟨-, rfl⟩ | ⟨-, rfl⟩ | ⟨-, rfl⟩
  · rfl
  · exact vtickWrites_cfg s
  · rcases hline with ⟨-, rfl⟩ | ⟨-, rfl⟩ | ⟨-, -, rfl⟩ <;> rfl
  · exact hostWrite_cfg s a d
  · exact returnValue_cfg s _
  · exact returnValue_cfg s _
  · exact startWrites_cfg s
  · exact stopWrites_cfg s
  · exact resetRegisters_cfg s

@[simp] theorem performHost_hostCommand_cfg (p : PinsIn) (s : State) : (s.performHost (hostCommand p)).cfg = s.cfg :=
  exec_cfg (exec_hostCommand p s)

theorem enterHorizontal_cfg {s t : State} (h : s.enterHorizontal = some t) : t.cfg = s.cfg := by
  rcases enterHorizontal_cases h with ⟨-, rfl⟩ | ⟨-, rfl⟩ | ⟨-, -, -, rfl⟩ <;> rfl

theorem cycleBody_cfg {p : PinsIn} {s b : State} (h : s.cycleBody p = some b) : b.cfg = s.cfg := by
  rcases cycleBody_cases h with ⟨-, rfl⟩ | ⟨-, hentry⟩ | ⟨-, -, rfl⟩ | ⟨-, -, rfl⟩ | ⟨-, -, -, rfl⟩ | ⟨-, -, -, rfl⟩
  · exact vtickWrites_cfg s
  · exact enterHorizontal_cfg hentry
  · exact alignStep_cfg s
  · exact emitStep_cfg s
  · exact performHost_hostCommand_cfg p s
  · rfl

theorem cycle_cfg {p : PinsIn} {s t : State} (h : cycle p s = .next t) : t.cfg = s.cfg := by
  rcases cycle_next_cases h with ⟨-, rfl⟩ | ⟨-, b, hbody, hland⟩
  · rfl
  · have hcfg : b.cfg = s.cfg := cycleBody_cfg (s := s.observePins p) hbody
    rcases hland with ⟨-, rfl⟩ | ⟨-, -, rfl⟩ <;> exact hcfg

/-- Settles O8: neither level writes the configuration. -/
theorem stepKeepsConfiguration : Obligations.StepKeepsConfiguration := by
  intro s t h
  rcases step_next_cases h with ⟨w, rest, i, -, -, -, hexec⟩ | ⟨p, rest, -, -, hcycle⟩
  · exact exec_cfg (s := { s with trace := .events rest }) hexec
  · exact cycle_cfg (s := { s with trace := .cycles rest }) hcycle

end Sys2Proof.Machine
end

section
/-! SUPPORT. The bounds of 10_state.md R22 and the widths of 00_scope.md R11, one rule per operation that writes a counter. -/

namespace Sys2Proof.Machine

theorem InBounds_vtickWrites {s : State} (hadm : s.cfg.Admissible) : s.vtickWrites.InBounds :=
  ⟨Nat.le_refl _, Nat.zero_le _, Config.vscale_pos hadm⟩

theorem InBounds_resetRegisters {s : State} (hadm : s.cfg.Admissible) : s.resetRegisters.InBounds :=
  ⟨Nat.le_refl _, Nat.zero_le _, Config.vscale_pos hadm⟩

theorem InBounds_skipLine {s : State} (h : s.InBounds) : s.skipLine.InBounds := by
  obtain ⟨hvskip, hrow, hrep⟩ := h
  exact ⟨(Nat.sub_le _ _).trans hvskip, hrow, hrep⟩

/-- A pixel-bearing line finds ROW < VISIBLE_LINES, so the row it moves on to is at most VISIBLE_LINES (R92). -/
theorem InBounds_finishLine {s : State} (hline : s.lineCase = .emit) (h : s.InBounds) : s.finishLine.InBounds := by
  obtain ⟨hvskip, -, hrep⟩ := h
  obtain ⟨-, hrow⟩ := lineCase_emit.mp hline
  refine ⟨hvskip, ?_, ?_⟩
  · rw [finishLine_row, finishLine_cfg]
    split <;> omega
  · rw [finishLine_rep, finishLine_cfg]
    split
    · omega
    · have hwrap : (s.rep + 1) % 2 ^ s.cfg.repW ≤ s.rep + 1 := Nat.mod_le _ _
      omega

theorem InBounds_hostWrite {s : State} (a : Addr) (d : Byte) (h : s.InBounds) : (s.hostWrite a d).InBounds := by
  rw [hostWrite_frame]
  exact h

theorem InBounds_exec {i : Instr} {s t : State} (hadm : s.cfg.Admissible) (hs : s.InBounds) (h : exec i s = .next t) :
    t.InBounds := by
  rcases exec_next_cases h with ⟨-, rfl⟩ | ⟨-, -, rfl⟩ | ⟨j, -, -, hline⟩ | ⟨a, d, -, rfl⟩ | ⟨a, -, rfl⟩ | ⟨-, rfl⟩ |
    ⟨-, rfl⟩ | ⟨-, rfl⟩ | ⟨-, rfl⟩
  · exact hs
  · exact InBounds_vtickWrites hadm
  · rcases hline with ⟨-, rfl⟩ | ⟨-, rfl⟩ | ⟨hemit, -, rfl⟩
    · exact InBounds_skipLine hs
    · exact hs
    · exact InBounds_finishLine hemit hs
  · exact InBounds_hostWrite a d hs
  · exact hs
  · exact hs
  · exact hs
  · exact hs
  · exact InBounds_resetRegisters hadm

/-- Inside the window an armed HTICK always has a result (41_horizontal_handler.md R84, R87). -/
theorem exec_htick_completes {s : State} {j : Byte} (hrun : s.run = true) (hj : j.toNat < s.cfg.window) :
    ∃ t, exec (.htick j) s = .next t := by
  cases hline : s.lineCase with
  | skip => exact ⟨_, exec_htick_skip j hrun hline⟩
  | emit => exact ⟨_, exec_htick_emit hrun hline hj⟩
  | idle => exact ⟨_, exec_htick_idle j hrun hline⟩

theorem FitsWidths_vtickWrites (s : State) : s.vtickWrites.FitsWidths :=
  ⟨Config.alineSentinel_lt _, Nat.mod_lt _ (Nat.two_pow_pos _)⟩

theorem FitsWidths_resetRegisters (s : State) : s.resetRegisters.FitsWidths :=
  ⟨Config.alineSentinel_lt _, Nat.two_pow_pos _⟩

theorem FitsWidths_finishLine {s : State} (h : s.FitsWidths) : s.finishLine.FitsWidths := by
  obtain ⟨-, het⟩ := h
  exact ⟨Nat.mod_lt _ (Nat.two_pow_pos _), het⟩

/-- The reset state of a configuration is a fixed point of RESET (10_state.md R35). -/
theorem resetRegisters_resetOf (c : Config) : (State.resetOf c).resetRegisters = State.resetOf c := rfl

/-- Settles O33: R22's bounds at reset and after every event, and HTICK's result inside the window. -/
theorem counterBoundsHoldAfterEveryEvent : Obligations.CounterBoundsHoldAfterEveryEvent := by
  refine ⟨fun c hadm => ?reset, fun i s t hadm hs h => ?event, fun s j hrun hj => ?total⟩
  case reset => exact resetRegisters_resetOf c ▸ InBounds_resetRegisters hadm
  case event => exact InBounds_exec hadm hs h
  case total => exact exec_htick_completes hrun hj

end Sys2Proof.Machine
end

section
/-! SUPPORT. The timers and the pending flags from one cycle to the next (60_exceptions.md R139 to R141, R148). -/

namespace Sys2Proof.Machine

/-- Away from the end of the line the line phase counts up (R139). -/
theorem nextHcnt_eq_succ {s : State} (hrun : s.run = true) (h : s.hcnt + 1 < s.cfg.linePeriod) :
    s.nextHcnt = s.hcnt + 1 := by
  have hlast : s.hcnt ≠ s.cfg.linePeriod - 1 := by omega
  simp only [State.nextHcnt, hrun, hlast, if_true, if_false]

/-- A pixel-bearing line is over by BLANK_START, before the line phase wraps (00_scope.md R9, R12). -/
theorem nextHcnt_eq_succ_of_lt_blankStart {s : State} (hclk : s.cfg.ClockedAdmissible) (hrun : s.run = true)
    (h : s.hcnt < s.cfg.blankStart) : s.nextHcnt = s.hcnt + 1 :=
  nextHcnt_eq_succ hrun (Nat.lt_of_le_of_lt h (Config.blankStart_lt_linePeriod hclk))

theorem nextHcnt_lt {s : State} (hclk : s.cfg.ClockedAdmissible) (h : s.hcnt < s.cfg.linePeriod) :
    s.nextHcnt < s.cfg.linePeriod := by
  have hpos := Config.linePeriod_pos hclk
  unfold State.nextHcnt
  split <;> [split; skip] <;> omega

theorem nextVcnt_lt {s : State} (hclk : s.cfg.ClockedAdmissible) (h : s.vcnt < s.cfg.framePeriod) :
    s.nextVcnt < s.cfg.framePeriod := by
  have hpos := Config.framePeriod_pos hclk
  unfold State.nextVcnt
  split <;> [split; skip] <;> omega

/-- The last count of a frame is the last count of a line: FRAME_PERIOD is a whole number of lines (R9, R141). -/
theorem framePeriod_pred_mod {c : Config} (hclk : c.ClockedAdmissible) :
    (c.framePeriod - 1) % c.linePeriod = c.linePeriod - 1 := by
  have hframe : c.framePeriod - 1 + 1 = c.frameLines * c.linePeriod := Nat.sub_add_cancel (Config.framePeriod_pos hclk)
  have hwrap : (c.framePeriod - 1 + 1) % c.linePeriod = 0 := by rw [hframe, Nat.mul_mod_left]
  rw [Nat.add_mod_eq_ite, Nat.mod_eq_of_lt (Config.one_lt_linePeriod hclk)] at hwrap
  split at hwrap <;> omega

/-- The two counters wrap together, so they stay in step (R141). -/
theorem nextVcnt_mod_linePeriod {s : State} (hclk : s.cfg.ClockedAdmissible)
    (h : s.vcnt % s.cfg.linePeriod = s.hcnt) : s.nextVcnt % s.cfg.linePeriod = s.nextHcnt := by
  have hone := Config.one_lt_linePeriod hclk
  have hlt : s.hcnt < s.cfg.linePeriod := h ▸ Nat.mod_lt _ (Config.linePeriod_pos hclk)
  have hsucc : (s.vcnt + 1) % s.cfg.linePeriod = if s.hcnt = s.cfg.linePeriod - 1 then 0 else s.hcnt + 1 := by
    rw [Nat.add_mod_eq_ite, h, Nat.mod_eq_of_lt hone]
    split <;> split <;> omega
  cases hrun : s.run with
  | false => simpa [State.nextVcnt, State.nextHcnt, hrun] using h
  | true =>
    simp only [State.nextVcnt, State.nextHcnt, hrun, if_true]
    split
    next hframe =>
      have hline : s.hcnt = s.cfg.linePeriod - 1 := by rw [← h, hframe, framePeriod_pred_mod hclk]
      rw [if_pos hline, Nat.zero_mod]
    next => exact hsucc

theorem TimersInStep_landTimers {p : PinsIn} {s b : State} (hcfg : b.cfg = s.cfg) (hclk : s.cfg.ClockedAdmissible)
    (h : s.TimersInStep) : (State.landTimers p s b).TimersInStep := by
  obtain ⟨hh, hv, hstep⟩ := h
  simp only [State.TimersInStep, landTimers_hcnt, landTimers_vcnt, landTimers_cfg, hcfg]
  exact ⟨nextHcnt_lt hclk hh, nextVcnt_lt hclk hv, nextVcnt_mod_linePeriod hclk hstep⟩

/-- Zeroed counters are in range and in step (START, R100; RESET, 10_state.md R35). -/
theorem TimersInStep_of_zero {s : State} (hclk : s.cfg.ClockedAdmissible) (hh : s.hcnt = 0) (hv : s.vcnt = 0) :
    s.TimersInStep :=
  ⟨hh ▸ Config.linePeriod_pos hclk, hv ▸ Config.framePeriod_pos hclk, by rw [hh, hv, Nat.zero_mod]⟩

/-- While stopped no channel ticks, so no flag comes up (R139, R140, R148). -/
theorem nextPending_of_stopped (p : PinsIn) {s : State} (h : s.StoppedIsQuiet) (hrun : s.run = false) :
    s.nextVpend p = false ∧ s.nextHpend p = false := by
  obtain ⟨hv, hh, -⟩ := h hrun
  simp [State.nextVpend, State.nextHpend, State.vTick, State.hTick, hrun, hv, hh]

/-- Anything pending, or a body in progress, means RUN = 1 (R148). -/
theorem run_of_hpend {s : State} (h : s.StoppedIsQuiet) (hpend : s.hpend = true) : s.run = true := by
  by_contra hrun
  obtain ⟨-, hh, -⟩ := h (by simpa using hrun)
  exact absurd (hpend.symm.trans hh) (by decide)

theorem run_of_body {s : State} (h : s.StoppedIsQuiet) (hbody : s.seq ≠ .idle) : s.run = true := by
  by_contra hrun
  obtain ⟨-, -, hidle⟩ := h (by simpa using hrun)
  exact hbody hidle

end Sys2Proof.Machine
end

section
/-! SUPPORT. The two forms a state takes while a body runs: waiting for the read cycle (70_reset_and_hazards.md R164, R165), or
with one sample of the row on the output (R166). Every sequencer step leads to one of them or ends the line. -/

namespace Sys2Proof.Machine

/-- The dejitter delay is running, with `d` wait cycles still to come. -/
def State.waiting (s : State) (d : Nat) : State := { s with dly := d, seq := .align }

/-- Sample `k` of row ROW is on the output, for its cycle number `ph`. -/
def State.showing (s : State) (k ph : Nat) : State :=
  { s with
    k := k
    ph := ph
    curb := s.memRead (rowAddr s.cfg s.row (k / 4))
    color := colorMap (sample (s.memRead (rowAddr s.cfg s.row (k / 4))) (k % 4))
    seq := .emit }

theorem alignStep_eq_waiting {s : State} (hseq : s.seq = .align) (hd : s.dly ≠ 0) :
    s.alignStep = s.waiting (s.dly - 1) := by
  simp only [State.alignStep, if_pos hd, State.waiting, ← hseq]

theorem alignStep_eq_showing {s : State} (hd : s.dly = 0) : s.alignStep = s.showing 0 0 := by
  simp only [State.alignStep, hd, ne_eq, not_true_eq_false, if_false]
  rfl

/-- The next sample comes from CURB, or is the first of the next byte: either way from byte K div 4 of the row (R166). -/
theorem nextSample_eq_showing {s : State} (hseq : s.seq = .emit)
    (hcurb : s.curb = s.memRead (rowAddr s.cfg s.row (s.k / 4))) : s.nextSample = s.showing (s.k + 1) 0 := by
  unfold State.nextSample
  split
  next hsame =>
    have hbyte : (s.k + 1) / 4 = s.k / 4 := by omega
    simp only [State.showing, hbyte, ← hcurb, ← hseq]
  next hnew =>
    have hfirst : (s.k + 1) % 4 = 0 := by omega
    simp only [State.showing, State.showByte, hfirst, ← hseq]

/-- An EMIT cycle before the last one holds the sample for one more cycle or moves on to the next (R166). -/
theorem emitStep_cases {s : State} (hseq : s.seq = .emit) (h : s.EmitOnPhase) :
    (s.ph + 1 < s.cfg.cps ∧ s.emitStep = s.showing s.k (s.ph + 1)) ∨
    (s.ph + 1 = s.cfg.cps ∧ s.k + 1 < s.cfg.samplesPerLine ∧ s.emitStep = s.showing (s.k + 1) 0) ∨
    (s.ph + 1 = s.cfg.cps ∧ s.k + 1 = s.cfg.samplesPerLine ∧ s.emitStep = s.finishLine) := by
  obtain ⟨hk, hph, -, hcurb, hcolor⟩ := h hseq
  unfold State.emitStep
  split
  next hhold =>
    refine .inl ⟨by omega, ?_⟩
    simp only [State.showing, ← hcurb, ← hcolor, ← hseq]
  next hdone =>
    split
    next hmore => exact .inr (.inl ⟨by omega, by omega, nextSample_eq_showing hseq hcurb⟩)
    next hlast => exact .inr (.inr ⟨by omega, by omega, rfl⟩)

end Sys2Proof.Machine
end

section
/-! SUPPORT. The invariant of both levels, one rule per operation, then per event, per cycle and per step. -/

namespace Sys2Proof.Machine

/-! ## States with the sequencer idle -/

theorem EventsAreAtomic_of_idle {s : State} (h : s.seq = .idle) : s.EventsAreAtomic := by
  unfold State.EventsAreAtomic
  split
  · exact h
  · trivial

theorem EventsAreAtomic_of_cycles {s : State} {ps : List PinsIn} (h : s.trace = .cycles ps) : s.EventsAreAtomic := by
  simp only [State.EventsAreAtomic, h]

/-- With the sequencer idle and BLANK on the output the clauses about a body ask nothing. -/
theorem inv_of_idle {s : State} (hadm : s.cfg.Admissible) (hbounds : s.InBounds) (hwidths : s.FitsWidths)
    (hfb : s.FramebufferOk) (hseq : s.seq = .idle) (hcolor : s.color = blank)
    (hquiet : s.run = false → s.vpend = false ∧ s.hpend = false)
    (htimers : s.cfg.ClockedAdmissible → s.TimersInStep) : s.Inv where
  admissible := hadm
  bounds := hbounds
  widths := hwidths
  framebuffer := hfb
  idleBlank _ := hcolor
  stopped hrun :=
    have ⟨hv, hh⟩ := hquiet hrun
    ⟨hv, hh, hseq⟩
  pixelBearing hbody := absurd hseq hbody
  timers := htimers
  align halign := by rw [hseq] at halign; cases halign
  emit hemit := by rw [hseq] at hemit; cases hemit
  events := EventsAreAtomic_of_idle hseq

theorem quiet_of_stopped {s : State} (h : s.StoppedIsQuiet) (hrun : s.run = false) :
    s.vpend = false ∧ s.hpend = false := by
  obtain ⟨hv, hh, -⟩ := h hrun
  exact ⟨hv, hh⟩

/-! ## Events -/

theorem inv_vtickWrites {s : State} (hs : s.Inv) (hidle : s.seq = .idle) : s.vtickWrites.Inv :=
  inv_of_idle hs.admissible (InBounds_vtickWrites hs.admissible) (FitsWidths_vtickWrites s) hs.framebuffer hidle
    (hs.idleBlank hidle) (quiet_of_stopped (s := s) hs.stopped) hs.timers

theorem inv_skipLine {s : State} (hs : s.Inv) (hidle : s.seq = .idle) : s.skipLine.Inv :=
  inv_of_idle hs.admissible (InBounds_skipLine hs.bounds) hs.widths hs.framebuffer hidle (hs.idleBlank hidle)
    (quiet_of_stopped (s := s) hs.stopped) hs.timers

theorem inv_idleLine {s : State} (hs : s.Inv) (hidle : s.seq = .idle) : s.idleLine.Inv :=
  inv_of_idle hs.admissible hs.bounds hs.widths hs.framebuffer hidle (hs.idleBlank hidle)
    (quiet_of_stopped (s := s) hs.stopped) hs.timers

theorem inv_finishLine {s : State} (hs : s.Inv) (hline : s.lineCase = .emit) : s.finishLine.Inv :=
  inv_of_idle hs.admissible (InBounds_finishLine hline hs.bounds) (FitsWidths_finishLine hs.widths) hs.framebuffer rfl rfl
    (quiet_of_stopped (s := s) hs.stopped) hs.timers

theorem inv_hostWrite {s : State} (hs : s.Inv) (hidle : s.seq = .idle) (a : Addr) (d : Byte) :
    (s.hostWrite a d).Inv := by
  have hfb := FramebufferOk_hostWrite hs.framebuffer a d
  rw [hostWrite_frame] at hfb ⊢
  exact inv_of_idle hs.admissible hs.bounds hs.widths hfb hidle (hs.idleBlank hidle)
    (quiet_of_stopped (s := s) hs.stopped) hs.timers

theorem inv_returnValue {s : State} (hs : s.Inv) (hidle : s.seq = .idle) (v : HostValue) : (s.returnValue v).Inv :=
  inv_of_idle hs.admissible hs.bounds hs.widths hs.framebuffer hidle (hs.idleBlank hidle)
    (quiet_of_stopped (s := s) hs.stopped) hs.timers

theorem inv_startWrites {s : State} (hs : s.Inv) (hidle : s.seq = .idle) : s.startWrites.Inv :=
  inv_of_idle hs.admissible hs.bounds hs.widths hs.framebuffer hidle rfl (fun _ => ⟨rfl, rfl⟩)
    (fun hclk => TimersInStep_of_zero hclk rfl rfl)

theorem inv_stopWrites {s : State} (hs : s.Inv) (hidle : s.seq = .idle) : s.stopWrites.Inv :=
  inv_of_idle hs.admissible hs.bounds hs.widths hs.framebuffer hidle (hs.idleBlank hidle) (fun _ => ⟨rfl, rfl⟩) hs.timers

/-- RESET needs of the state before only what it keeps: the configuration and the framebuffer (42_lifecycle.md R104). -/
theorem inv_resetRegisters {s : State} (hadm : s.cfg.Admissible) (hfb : s.FramebufferOk) : s.resetRegisters.Inv :=
  inv_of_idle hadm (InBounds_resetRegisters hadm) (FitsWidths_resetRegisters s) hfb rfl rfl (fun _ => ⟨rfl, rfl⟩)
    (fun hclk => TimersInStep_of_zero hclk rfl rfl)

theorem inv_exec {i : Instr} {s t : State} (hs : s.Inv) (hidle : s.seq = .idle) (h : exec i s = .next t) : t.Inv := by
  rcases exec_next_cases h with ⟨-, rfl⟩ | ⟨-, -, rfl⟩ | ⟨j, -, -, hline⟩ | ⟨a, d, -, rfl⟩ | ⟨a, -, rfl⟩ | ⟨-, rfl⟩ |
    ⟨-, rfl⟩ | ⟨-, rfl⟩ | ⟨-, rfl⟩
  · exact hs
  · exact inv_vtickWrites hs hidle
  · rcases hline with ⟨-, rfl⟩ | ⟨-, rfl⟩ | ⟨hemit, -, rfl⟩
    · exact inv_skipLine hs hidle
    · exact inv_idleLine hs hidle
    · exact inv_finishLine hs hemit
  · exact inv_hostWrite hs hidle a d
  · exact inv_returnValue hs hidle _
  · exact inv_returnValue hs hidle _
  · exact inv_startWrites hs hidle
  · exact inv_stopWrites hs hidle
  · exact inv_resetRegisters hs.admissible hs.framebuffer

/-! ## The timers landing at the end of a cycle (70_reset_and_hazards.md R161) -/

theorem inv_landTimers_idle (p : PinsIn) {s b : State} (hs : s.Inv) (hb : b.Inv) (hidle : b.seq = .idle)
    (hcfg : b.cfg = s.cfg) (hrun : b.run = s.run) : (State.landTimers p s b).Inv :=
  inv_of_idle hb.admissible hb.bounds hb.widths hb.framebuffer hidle (hb.idleBlank hidle)
    (fun hstop => nextPending_of_stopped p hs.stopped (hrun ▸ hstop))
    (fun hclk => TimersInStep_landTimers hcfg (hcfg ▸ hclk) (hs.timers (hcfg ▸ hclk)))

/-- The delay that is left ends at the read cycle, so the state is on its line phase (R165). -/
theorem inv_landTimers_waiting (p : PinsIn) {s : State} {ps : List PinsIn} {d : Nat} (hs : s.Inv)
    (htrace : s.trace = .cycles ps) (hrun : s.run = true) (hline : s.lineCase = .emit) (hcolor : s.color = blank)
    (hd : d < s.cfg.window) (hphase : s.nextHcnt + d = s.cfg.entryBase + s.cfg.window) :
    (State.landTimers p s (s.waiting d)).Inv where
  admissible := hs.admissible
  bounds := hs.bounds
  widths := hs.widths
  framebuffer := hs.framebuffer
  idleBlank _ := hcolor
  stopped hstop := absurd (hrun.symm.trans hstop) (by decide)
  pixelBearing _ := hline
  timers hclk := TimersInStep_landTimers rfl hclk (hs.timers hclk)
  align _ := ⟨hd, hphase, hcolor⟩
  emit hemit := by cases hemit
  events := EventsAreAtomic_of_cycles htrace

/-- The sample shown is the one of its line phase (R166). -/
theorem inv_landTimers_showing (p : PinsIn) {s : State} {ps : List PinsIn} {k ph : Nat} (hs : s.Inv)
    (htrace : s.trace = .cycles ps) (hrun : s.run = true) (hline : s.lineCase = .emit)
    (hk : k < s.cfg.samplesPerLine) (hph : ph < s.cfg.cps)
    (hphase : s.nextHcnt = s.cfg.emitStart + k * s.cfg.cps + ph) : (State.landTimers p s (s.showing k ph)).Inv where
  admissible := hs.admissible
  bounds := hs.bounds
  widths := hs.widths
  framebuffer := hs.framebuffer
  idleBlank hidle := by cases hidle
  stopped hstop := absurd (hrun.symm.trans hstop) (by decide)
  pixelBearing _ := hline
  timers hclk := TimersInStep_landTimers rfl hclk (hs.timers hclk)
  align halign := by cases halign
  emit _ := ⟨hk, hph, hphase, rfl, rfl⟩
  events := EventsAreAtomic_of_cycles htrace

/-! ## The exclusive steps of a cycle (R161, steps 2 to 4) -/

section CycleSteps

variable {s : State} {ps : List PinsIn}

theorem inv_verticalEntry {p : PinsIn} (hs : s.Inv) (hentry : s.entered p = some .vertical) :
    (State.landTimers p s s.vtickWrites).Inv := by
  obtain ⟨-, hidle, -⟩ := entered_some hentry
  exact inv_landTimers_idle p hs (inv_vtickWrites hs hidle) hidle rfl rfl

/-- The delay looked up at the entry phase makes up for the jitter (R164). -/
theorem inv_horizontalEntry {p : PinsIn} {b : State} (hs : s.Inv) (hclk : s.cfg.ClockedAdmissible)
    (htrace : s.trace = .cycles ps) (hentry : s.entered p = some .horizontal) (hb : s.enterHorizontal = some b) :
    (State.landTimers p s b).Inv := by
  obtain ⟨-, hidle, hrequest⟩ := entered_some hentry
  rcases enterHorizontal_cases hb with ⟨-, rfl⟩ | ⟨-, rfl⟩ | ⟨hline, hbase, hwindow, rfl⟩
  · exact inv_landTimers_idle p hs (inv_skipLine hs hidle) hidle rfl rfl
  · exact inv_landTimers_idle p hs (inv_idleLine hs hidle) hidle rfl rfl
  · have hrun := run_of_hpend hs.stopped (requested_horizontal.mp hrequest).2
    have hstart : s.cfg.emitStart = s.cfg.entryBase + s.cfg.window + 1 := rfl
    have hnext : s.nextHcnt = s.hcnt + 1 :=
      nextHcnt_eq_succ hrun (by have := Config.emitStart_lt_linePeriod hclk; omega)
    refine inv_landTimers_waiting p hs htrace hrun hline (hs.idleBlank hidle) ?_ ?_ <;> unfold alignDelay <;> omega

theorem inv_alignStep (p : PinsIn) (hs : s.Inv) (hclk : s.cfg.ClockedAdmissible) (htrace : s.trace = .cycles ps)
    (hseq : s.seq = .align) : (State.landTimers p s s.alignStep).Inv := by
  have hbody : s.seq ≠ .idle := by rw [hseq]; decide
  have hrun := run_of_body hs.stopped hbody
  have hline := hs.pixelBearing hbody
  obtain ⟨hdly, hphase, hcolor⟩ := hs.align hseq
  have hstart : s.cfg.emitStart = s.cfg.entryBase + s.cfg.window + 1 := rfl
  have hnext : s.nextHcnt = s.hcnt + 1 :=
    nextHcnt_eq_succ hrun (by have := Config.emitStart_lt_linePeriod hclk; omega)
  by_cases hd : s.dly = 0
  · rw [alignStep_eq_showing hd]
    exact inv_landTimers_showing p hs htrace hrun hline (Config.samplesPerLine_pos hs.admissible) (Config.cps_pos hclk)
      (by omega)
  · rw [alignStep_eq_waiting hseq hd]
    exact inv_landTimers_waiting p hs htrace hrun hline hcolor (by omega) (by omega)

theorem inv_emitStep (p : PinsIn) (hs : s.Inv) (hclk : s.cfg.ClockedAdmissible) (htrace : s.trace = .cycles ps)
    (hseq : s.seq = .emit) : (State.landTimers p s s.emitStep).Inv := by
  have hbody : s.seq ≠ .idle := by rw [hseq]; decide
  have hrun := run_of_body hs.stopped hbody
  have hline := hs.pixelBearing hbody
  obtain ⟨hk, hph, hphase, -⟩ := hs.emit hseq
  have hnext : s.nextHcnt = s.hcnt + 1 :=
    nextHcnt_eq_succ_of_lt_blankStart hclk hrun (hphase ▸ Config.samplePhase_lt_blankStart hk hph)
  rcases emitStep_cases hseq hs.emit with ⟨hhold, hstep⟩ | ⟨hlast, hmore, hstep⟩ | ⟨-, -, hstep⟩
  · rw [hstep]
    exact inv_landTimers_showing p hs htrace hrun hline hk hhold (by omega)
  · rw [hstep]
    refine inv_landTimers_showing p hs htrace hrun hline hmore (Config.cps_pos hclk) ?_
    rw [Nat.add_mul, Nat.one_mul]
    omega
  · rw [hstep]
    exact inv_landTimers_idle p hs (inv_finishLine hs hline) rfl rfl rfl

end CycleSteps

/-! ## The host port (R160) -/

@[simp] theorem performHost_hostCommand_seq (p : PinsIn) (s : State) :
    (s.performHost (hostCommand p)).seq = s.seq := by
  rcases hostCommand_cases p with h | h | h | h | h | h <;> simp [h, State.performHost]

/-- Of the host commands only START and STOP write RUN (R100, R102). -/
theorem performHost_hostCommand_run {p : PinsIn} (s : State) (hstart : hostCommand p ≠ .start)
    (hstop : hostCommand p ≠ .stop) : (s.performHost (hostCommand p)).run = s.run := by
  rcases hostCommand_cases p with h | h | h | h | h | h <;> simp_all [State.performHost]

theorem inv_performHost (p : PinsIn) {s : State} (hs : s.Inv) (hidle : s.seq = .idle) :
    (s.performHost (hostCommand p)).Inv :=
  inv_exec hs hidle (exec_hostCommand p s)

/-- In a cycle of an accepted START or STOP the body is that command (R161 (6)). -/
theorem cycleBody_of_overridden {p : PinsIn} {s b : State} (hov : s.overridden p = true) (hb : s.cycleBody p = some b) :
    s.seq = .idle ∧ b = s.performHost (hostCommand p) := by
  obtain ⟨hready, -⟩ := overridden_iff.mp hov
  obtain ⟨-, hidle, hiack⟩ := hReady_iff.mp hready
  have hentry : s.entered p = none := by simp [State.entered, hiack]
  refine ⟨hidle, ?_⟩
  simpa [State.cycleBody, hentry, hidle, accepted_of_ready hready] using hb.symm

theorem inv_hostStep {p : PinsIn} {s : State} (hs : s.Inv) (hidle : s.seq = .idle)
    (hacc : s.accepted p = some (hostCommand p)) (hov : s.overridden p = false) :
    (State.landTimers p s (s.performHost (hostCommand p))).Inv := by
  obtain ⟨hready, -⟩ := accepted_some hacc
  have hcommand : ¬ (hostCommand p = .start ∨ hostCommand p = .stop) := fun h => by
    rw [overridden_iff.mpr ⟨hready, h⟩] at hov
    cases hov
  obtain ⟨hstart, hstop⟩ := not_or.mp hcommand
  exact inv_landTimers_idle p hs (inv_performHost p hs hidle) (by rw [performHost_hostCommand_seq, hidle])
    (performHost_hostCommand_cfg p s) (performHost_hostCommand_run s hstart hstop)

/-! ## Cycles and steps -/

theorem inv_landTimers_cycleBody {p : PinsIn} {s b : State} {ps : List PinsIn} (hs : s.Inv)
    (hclk : s.cfg.ClockedAdmissible) (htrace : s.trace = .cycles ps) (hov : s.overridden p = false)
    (hb : s.cycleBody p = some b) : (State.landTimers p s b).Inv := by
  rcases cycleBody_cases hb with ⟨hentry, rfl⟩ | ⟨hentry, hbody⟩ | ⟨-, hseq, rfl⟩ | ⟨-, hseq, rfl⟩ |
    ⟨-, hseq, hacc, rfl⟩ | ⟨-, hseq, -, rfl⟩
  · exact inv_verticalEntry hs hentry
  · exact inv_horizontalEntry hs hclk htrace hentry hbody
  · exact inv_alignStep p hs hclk htrace hseq
  · exact inv_emitStep p hs hclk htrace hseq
  · exact inv_hostStep hs hseq hacc hov
  · exact inv_landTimers_idle p hs hs hseq rfl rfl

/-- The observation is no state (10_state.md R32): the invariant does not look at it. -/
theorem inv_observePins (p : PinsIn) {s : State} (hs : s.Inv) : (s.observePins p).Inv :=
  ⟨hs.admissible, hs.bounds, hs.widths, hs.framebuffer, hs.idleBlank, hs.stopped, hs.pixelBearing, hs.timers, hs.align,
    hs.emit, hs.events⟩

theorem inv_cycle {p : PinsIn} {s t : State} {ps : List PinsIn} (hs : s.Inv) (hclk : s.cfg.ClockedAdmissible)
    (htrace : s.trace = .cycles ps) (h : cycle p s = .next t) : t.Inv := by
  have hobs := inv_observePins p hs
  rcases cycle_next_cases h with ⟨-, rfl⟩ | ⟨-, b, hbody, ⟨hov, rfl⟩ | ⟨hov, -, rfl⟩⟩
  · exact inv_resetRegisters hs.admissible hs.framebuffer
  · obtain ⟨hidle, rfl⟩ := cycleBody_of_overridden (s := s.observePins p) hov hbody
    exact inv_performHost p hobs hidle
  · exact inv_landTimers_cycleBody (s := s.observePins p) hobs hclk htrace hov hbody

/-- Of the input still to come the invariant asks only its level. -/
theorem inv_setTrace {s : State} (tr : Trace) (hs : s.Inv) (h : ({ s with trace := tr } : State).EventsAreAtomic) :
    ({ s with trace := tr } : State).Inv :=
  ⟨hs.admissible, hs.bounds, hs.widths, hs.framebuffer, hs.idleBlank, hs.stopped, hs.pixelBearing, hs.timers, hs.align,
    hs.emit, h⟩

theorem idle_of_events {s : State} {words : List EventWord} (h : s.EventsAreAtomic) (htrace : s.trace = .events words) :
    s.seq = .idle := by
  simpa only [State.EventsAreAtomic, htrace] using h

/-- Settles O34: an event starts from an idle sequencer, a cycle from a state on its line phase. -/
theorem stepKeepsInvariant : Obligations.StepKeepsInvariant := by
  intro s t hs h
  rcases step_next_cases h with ⟨w, rest, i, -, htrace, -, hexec⟩ | ⟨p, rest, hclk, -, hcycle⟩
  · have hidle := idle_of_events hs.events htrace
    exact inv_exec (inv_setTrace (.events rest) hs (EventsAreAtomic_of_idle hidle)) hidle hexec
  · exact inv_cycle (inv_setTrace (.cycles rest) hs (EventsAreAtomic_of_cycles rfl)) hclk rfl hcycle

end Sys2Proof.Machine
end

section
/-! The reset statements (10_state.md R35, 42_lifecycle.md R104). -/

namespace Sys2Proof.Machine

theorem FramebufferOk_resetOf (c : Config) : (State.resetOf c).FramebufferOk :=
  ⟨reset_memory_wf c, fun _ hread => by cases hread⟩

theorem inv_resetOf {c : Config} (hadm : c.Admissible) : (State.resetOf c).Inv := by
  rw [← resetRegisters_resetOf]
  exact inv_resetRegisters hadm (FramebufferOk_resetOf c)

/-- Settles O35: TINY is one of the admissible configurations. -/
theorem resetMeetsInvariant : Obligations.ResetMeetsInvariant :=
  ⟨inv_resetOf (by decide), fun _ hadm => inv_resetOf hadm⟩

/-- With RUN = 0 both sync lines are deasserted (10_state.md R30). -/
theorem sync_of_stopped {s : State} (h : s.run = false) :
    s.hsync = (!s.cfg.hsyncPol) ∧ s.vsync = (!s.cfg.vsyncPol) := by
  simp [State.hsync, State.vsync, h]

/-- Settles O31: R35 register by register; the sync lines follow from RUN = 0 and the bytes from the framebuffer kept. -/
theorem resetRestoresEveryRegister : Obligations.ResetRestoresEveryRegister := by
  intro s
  obtain ⟨hhsync, hvsync⟩ := sync_of_stopped (resetRegisters_run s)
  exact ⟨s.resetRegisters, rfl, rfl, rfl, rfl, rfl, rfl, rfl, rfl, rfl, rfl, rfl, rfl, rfl, rfl, rfl, rfl, rfl, hhsync,
    hvsync, memRead_congr (resetRegisters_fb s)⟩

end Sys2Proof.Machine
end

section
/-! The memory statements (20_memory.md): which events change a byte of the framebuffer, and what a byte reads after a run. -/

namespace Sys2Proof.Machine

/-! ## One event (R47, R50) -/

theorem exec_fb {i : Instr} {s t : State} (h : exec i s = .next t) (hi : ∀ a d, i ≠ .fbwr a d) : t.fb = s.fb := by
  rcases exec_next_cases h with ⟨-, rfl⟩ | ⟨-, -, rfl⟩ | ⟨j, -, -, hline⟩ | ⟨a, d, hfbwr, -⟩ | ⟨a, -, rfl⟩ | ⟨-, rfl⟩ |
    ⟨-, rfl⟩ | ⟨-, rfl⟩ | ⟨-, rfl⟩
  · rfl
  · exact vtickWrites_fb s
  · rcases hline with ⟨-, rfl⟩ | ⟨-, rfl⟩ | ⟨-, -, rfl⟩
    · exact skipLine_fb s
    · exact idleLine_fb s
    · exact finishLine_fb s
  · exact absurd hfbwr (hi a d)
  · exact returnValue_fb s _
  · exact returnValue_fb s _
  · exact startWrites_fb s
  · exact stopWrites_fb s
  · exact resetRegisters_fb s

/-- Settles O25: with the framebuffer kept, every byte is. -/
theorem onlyFbwrChangesFramebuffer : Obligations.OnlyFbwrChangesFramebuffer :=
  fun _ _ _ h hi => memRead_congr (exec_fb h hi)

theorem storedAt_fbwr (c : Config) (a : Nat) (b : Addr) (d : Byte) :
    storedAt c a (.fbwr b d) = if b.toNat = a ∧ b.toNat < c.fbSize then some d else none := rfl

theorem storedAt_of_ne_fbwr (c : Config) (a : Nat) {i : Instr} (hi : ∀ b d, i ≠ .fbwr b d) : storedAt c a i = none := by
  cases i with
  | fbwr b d => exact absurd rfl (hi b d)
  | _ => rfl

/-- What one event stores at an address is what the address reads after it (R53). -/
theorem memRead_exec {i : Instr} {s t : State} (h : exec i s = .next t) (a : Nat) :
    t.memRead a = (storedAt s.cfg a i).getD (s.memRead a) := by
  by_cases hi : ∃ b d, i = .fbwr b d
  case pos =>
    obtain ⟨b, d, rfl⟩ := hi
    obtain rfl : s.hostWrite b d = t := Host.Outcome.next.inj h
    rw [memRead_hostWrite, storedAt_fbwr]
    split <;> rfl
  case neg =>
    have hne : ∀ b d, i ≠ .fbwr b d := fun b d hbd => hi ⟨b, d, hbd⟩
    rw [storedAt_of_ne_fbwr _ _ hne, Option.getD_none]
    exact memRead_congr (exec_fb h hne) a

/-! ## Runs of events (R53) -/

theorem lastWrite_cons_getD (c : Config) (a : Nat) (e : Instr) (es : List Instr) (v : Byte) :
    (lastWrite c a (e :: es)).getD v = (lastWrite c a es).getD ((storedAt c a e).getD v) :=
  Option.getD_or

/-- Settles O26, by induction on the run: the first event's byte is the one the rest of the run starts from. -/
theorem readsReturnTheLatestWrite : Obligations.ReadsReturnTheLatestWrite := by
  intro es
  induction es with
  | nil =>
    intro s t a h
    obtain rfl : s = t := Host.Outcome.next.inj h
    rfl
  | cons e es ih =>
    intro s t a h
    obtain ⟨u, hexec, hrest⟩ := runEvents_cons.mp h
    calc t.memRead a
        = (lastWrite u.cfg a es).getD (u.memRead a) := ih u t a hrest
      _ = (lastWrite s.cfg a es).getD ((storedAt s.cfg a e).getD (s.memRead a)) := by
          rw [exec_cfg hexec, memRead_exec hexec a]
      _ = (lastWrite s.cfg a (e :: es)).getD (s.memRead a) := (lastWrite_cons_getD _ _ _ _ _).symm

end Sys2Proof.Machine
end

section
/-! SUPPORT. Events by the fields of their words (30_encoding.md R63 to R68): which fields the encoder writes, and that the decoder
answers an event exactly for a word with that event's fields. -/

namespace Sys2Proof

/-! ## A word and its fields (R63) -/

theorem packWord_eq_iff (op : BitVec 4) (a : Addr) (d : Byte) (w : EventWord) :
    packWord op a d = w ↔ opField w = op ∧ zField w = 0 ∧ aField w = a ∧ dField w = d := by
  constructor
  · rintro rfl
    simp
  · rintro ⟨rfl, hz, rfl, rfl⟩
    exact packWord_fields w hz

@[simp] theorem opField_and (v w : EventWord) : opField (v &&& w) = opField v &&& opField w :=
  BitVec.extractLsb'_and

@[simp] theorem zField_and (v w : EventWord) : zField (v &&& w) = zField v &&& zField w :=
  BitVec.extractLsb'_and

@[simp] theorem aField_and (v w : EventWord) : aField (v &&& w) = aField v &&& aField w :=
  BitVec.extractLsb'_and

@[simp] theorem dField_and (v w : EventWord) : dField (v &&& w) = dField v &&& dField w :=
  BitVec.extractLsb'_and

/-! ## The fields an event writes (R64 to R67) -/

/-- The OP column of R66. -/
def Instr.opCode (i : Instr) : BitVec 4 :=
  match i with
  | .nop => 0x0
  | .vtick => 0x1
  | .htick _ => 0x2
  | .fbwr _ _ => 0x3
  | .fbrd _ => 0x4
  | .rdet => 0x5
  | .start => 0x6
  | .stop => 0x7
  | .reset => 0xF

/-- What stands in the field A, 0 where the event does not use it (R67). -/
def Instr.aOperand (i : Instr) : Addr :=
  match i with
  | .fbwr a _ => a
  | .fbrd a => a
  | _ => 0

/-- What stands in the field D, 0 where the event does not use it (R67). -/
def Instr.dOperand (i : Instr) : Byte :=
  match i with
  | .htick j => j
  | .fbwr _ d => d
  | _ => 0

/-- Whether the event uses the field A (R67). -/
def Instr.usesA (i : Instr) : Bool :=
  match i with
  | .fbwr _ _ => true
  | .fbrd _ => true
  | _ => false

/-- Whether the event uses the field D (R67). -/
def Instr.usesD (i : Instr) : Bool :=
  match i with
  | .htick _ => true
  | .fbwr _ _ => true
  | _ => false

theorem aOperand_of_not_usesA {i : Instr} (h : ¬ i.usesA = true) : i.aOperand = 0 := by
  cases i with
  | fbwr a d => exact absurd rfl h
  | fbrd a => exact absurd rfl h
  | _ => rfl

theorem dOperand_of_not_usesD {i : Instr} (h : ¬ i.usesD = true) : i.dOperand = 0 := by
  cases i with
  | htick j => exact absurd rfl h
  | fbwr a d => exact absurd rfl h
  | _ => rfl

theorem opCode_of_usesA {i : Instr} (h : i.usesA = true) : i.opCode.toNat = 3 ∨ i.opCode.toNat = 4 := by
  cases i with
  | fbwr a d => exact .inl rfl
  | fbrd a => exact .inr rfl
  | _ => cases h

theorem opCode_of_usesD {i : Instr} (h : i.usesD = true) : i.opCode.toNat = 2 ∨ i.opCode.toNat = 3 := by
  cases i with
  | htick j => exact .inl rfl
  | fbwr a d => exact .inr rfl
  | _ => cases h

/-- The codes 0x8 to 0xE stand in no row (R68). -/
theorem opCode_not_reserved (i : Instr) : i.opCode.toNat < 8 ∨ 14 < i.opCode.toNat := by
  cases i <;> simp [Instr.opCode]

theorem encode_eq_packWord (i : Instr) : encode i = packWord i.opCode i.aOperand i.dOperand := by
  cases i <;> rfl

@[simp] theorem opField_encode (i : Instr) : opField (encode i) = i.opCode := by
  rw [encode_eq_packWord, opField_packWord]

@[simp] theorem zField_encode (i : Instr) : zField (encode i) = 0 := by
  rw [encode_eq_packWord, zField_packWord]

@[simp] theorem aField_encode (i : Instr) : aField (encode i) = i.aOperand := by
  rw [encode_eq_packWord, aField_packWord]

@[simp] theorem dField_encode (i : Instr) : dField (encode i) = i.dOperand := by
  rw [encode_eq_packWord, dField_packWord]

theorem encode_eq_iff (i : Instr) (w : EventWord) :
    encode i = w ↔ opField w = i.opCode ∧ zField w = 0 ∧ aField w = i.aOperand ∧ dField w = i.dOperand := by
  rw [encode_eq_packWord, packWord_eq_iff]

/-! ## When the decoder answers an event (R67, R68) -/

theorem decodePlain_eq_event_iff (i k : Instr) (w : EventWord) :
    decodePlain i w = .event k ↔ i = k ∧ aField w = 0 ∧ dField w = 0 := by
  unfold decodePlain
  split
  · simp_all
  · split <;> simp_all

theorem decodeHtick_eq_event_iff (k : Instr) (w : EventWord) :
    decodeHtick w = .event k ↔ .htick (dField w) = k ∧ aField w = 0 := by
  unfold decodeHtick
  split <;> simp_all

theorem decodeFbrd_eq_event_iff (k : Instr) (w : EventWord) :
    decodeFbrd w = .event k ↔ .fbrd (aField w) = k ∧ dField w = 0 := by
  unfold decodeFbrd
  split <;> simp_all

theorem decode_eq_event_iff_decodeOp (w : EventWord) (i : Instr) :
    decode w = .event i ↔ zField w = 0 ∧ decodeOp (opField w).toNat w = .event i := by
  unfold decode
  split
  · simp_all
  · split <;> simp_all

/-- An operation code spells the event whose row it stands in (R66), and the unused fields are zero (R67). -/
theorem fields_of_decodeOp {op : Nat} {w : EventWord} {i : Instr} (h : decodeOp op w = .event i) :
    op = i.opCode.toNat ∧ aField w = i.aOperand ∧ dField w = i.dOperand := by
  unfold decodeOp at h
  split at h
  case h_3 => -- HTICK
    obtain ⟨rfl, ha⟩ := (decodeHtick_eq_event_iff _ _).mp h
    exact ⟨rfl, ha, rfl⟩
  case h_4 => -- FBWR
    cases h
    exact ⟨rfl, rfl, rfl⟩
  case h_5 => -- FBRD
    obtain ⟨rfl, hd⟩ := (decodeFbrd_eq_event_iff _ _).mp h
    exact ⟨rfl, rfl, hd⟩
  case h_10 => cases h -- a reserved code
  all_goals -- the events without operands
    obtain ⟨rfl, ha, hd⟩ := (decodePlain_eq_event_iff _ _ _).mp h
    exact ⟨rfl, ha, hd⟩

theorem decodeOp_encode (i : Instr) : decodeOp i.opCode.toNat (encode i) = .event i := by
  cases i with
  | htick j => exact (decodeHtick_eq_event_iff _ _).mpr ⟨congrArg _ (dField_encode (.htick j)), aField_encode (.htick j)⟩
  | fbwr a d => exact congrArg₂ (fun a d => Decoded.event (.fbwr a d)) (aField_encode (.fbwr a d)) (dField_encode (.fbwr a d))
  | fbrd a => exact (decodeFbrd_eq_event_iff _ _).mpr ⟨congrArg _ (aField_encode (.fbrd a)), dField_encode (.fbrd a)⟩
  | _ => exact (decodePlain_eq_event_iff _ _ _).mpr ⟨rfl, aField_encode _, dField_encode _⟩

theorem decode_encode (i : Instr) : decode (encode i) = .event i := by
  rw [decode_eq_event_iff_decodeOp, opField_encode]
  exact ⟨zField_encode i, decodeOp_encode i⟩

/-- The decoder answers an event for that event's own word and for no other. -/
theorem decode_eq_event_iff (w : EventWord) (i : Instr) : decode w = .event i ↔ encode i = w := by
  constructor
  · intro h
    obtain ⟨hz, hdec⟩ := (decode_eq_event_iff_decodeOp w i).mp h
    obtain ⟨hop, ha, hd⟩ := fields_of_decodeOp hdec
    exact (encode_eq_iff i w).mpr ⟨BitVec.eq_of_toNat_eq hop, hz, ha, hd⟩
  · rintro rfl
    exact decode_encode i

theorem wordValid_iff (w : EventWord) : wordValid w = true ↔ ∃ i, encode i = w := by
  simp only [← decode_eq_event_iff]
  unfold wordValid
  cases decode w <;> simp

/-- A word is invalid as soon as no event has its fields. -/
theorem wordValid_eq_false {w : EventWord}
    (h : ∀ i : Instr, opField w = i.opCode → zField w = 0 → aField w = i.aOperand → dField w ≠ i.dOperand) :
    wordValid w = false := by
  rw [← Bool.not_eq_true, wordValid_iff]
  rintro ⟨i, hi⟩
  obtain ⟨hop, hz, ha, hd⟩ := (encode_eq_iff i w).mp hi
  exact h i hop hz ha hd

end Sys2Proof
end

section
/-! SUPPORT. The opcode map of 30_encoding.md R66 row by row, in terms of the fields of the word. -/

namespace Sys2Proof

theorem rowMatch_eq_packWord (i : Instr) : rowMatch i = packWord i.opCode 0 0 := by
  cases i <;> simp only [rowMatch, Instr.opCode] <;> rfl

@[simp] theorem opField_rowMask (i : Instr) : opField (rowMask i) = BitVec.allOnes 4 := by
  cases i <;> simp only [rowMask] <;> rfl

@[simp] theorem zField_rowMask (i : Instr) : zField (rowMask i) = BitVec.allOnes 4 := by
  cases i <;> simp only [rowMask] <;> rfl

/-- A row asks for the operation code, for Z = 0, and for zero in what its mask covers of A and D. -/
theorem fits_row_iff (w : EventWord) (i : Instr) :
    w &&& rowMask i = rowMatch i ↔
      opField w = i.opCode ∧ zField w = 0 ∧ aField w &&& aField (rowMask i) = 0 ∧ dField w &&& dField (rowMask i) = 0 := by
  rw [rowMatch_eq_packWord, eq_comm, packWord_eq_iff, opField_and, zField_and, aField_and, dField_and, opField_rowMask,
    zField_rowMask, BitVec.and_allOnes, BitVec.and_allOnes]

/-- The mask covers the field A of the events that do not use it. -/
theorem aField_rowMask (i : Instr) : aField (rowMask i) = if i.usesA then 0 else BitVec.allOnes 16 := by
  cases i <;> simp only [rowMask, Instr.usesA] <;> rfl

/-- The mask covers the field D of the events that do not use it. -/
theorem dField_rowMask (i : Instr) : dField (rowMask i) = if i.usesD then 0 else BitVec.allOnes 8 := by
  cases i <;> simp only [rowMask, Instr.usesD] <;> rfl

theorem operandsFrom_iff (w : EventWord) (i : Instr) :
    operandsFrom w i ↔ (i.usesA = true → aField w = i.aOperand) ∧ (i.usesD = true → dField w = i.dOperand) := by
  cases i <;> simp [operandsFrom, Instr.usesA, Instr.usesD, Instr.aOperand, Instr.dOperand, eq_comm]

/-- A field is settled either by the mask, where the event does not use it, or by the operand (R64, R67). -/
theorem masked_field_iff {n : Nat} {uses : Bool} {field operand : BitVec n} (h : ¬ uses = true → operand = 0) :
    field &&& (if uses then 0 else BitVec.allOnes n) = 0 ∧ (uses = true → field = operand) ↔ field = operand := by
  cases uses with
  | true => simp
  | false =>
    rw [h Bool.false_ne_true, if_neg Bool.false_ne_true, BitVec.and_allOnes]
    simp

theorem operands_of_row_iff (w : EventWord) (i : Instr) :
    (aField w &&& aField (rowMask i) = 0 ∧ dField w &&& dField (rowMask i) = 0) ∧ operandsFrom w i ↔
      aField w = i.aOperand ∧ dField w = i.dOperand := by
  rw [operandsFrom_iff, and_and_and_comm, aField_rowMask, dField_rowMask, masked_field_iff aOperand_of_not_usesA,
    masked_field_iff dOperand_of_not_usesD]

theorem fits_row_with_operands_iff (w : EventWord) (i : Instr) :
    w &&& rowMask i = rowMatch i ∧ operandsFrom w i ↔ encode i = w := by
  rw [fits_row_iff, encode_eq_iff, and_assoc, and_assoc, operands_of_row_iff]

end Sys2Proof
end

section
/-! The encoding statements (30_encoding.md): round trip, opcode map, and the words that spell no event. -/

namespace Sys2Proof.Machine

/-- Settles O1: both directions are `decode_eq_event_iff`. -/
theorem decodeEncodeRoundTrip : Obligations.DecodeEncodeRoundTrip :=
  ⟨fun i => (decode_eq_event_iff _ i).mpr rfl, fun w i => (decode_eq_event_iff w i).mp⟩

/-- Settles O2: fitting a row with its operands and being decoded to its event both say that the word is the event's own; two
rows that a word fits have its operation code, which fixes the match. -/
theorem decodeFollowsOpcodeTable : Obligations.DecodeFollowsOpcodeTable := by
  refine ⟨fun w i => (decode_eq_event_iff w i).trans (fits_row_with_operands_iff w i).symm, ?_⟩
  intro w i j hi hj
  have hopi : opField w = i.opCode := ((fits_row_iff w i).mp hi).1
  have hopj : opField w = j.opCode := ((fits_row_iff w j).mp hj).1
  rw [rowMatch_eq_packWord, rowMatch_eq_packWord, ← hopi, ← hopj]

/-! ## Words that spell no event (R67, R68) -/

theorem fetch_events_invalidWord {s : State} {words : List EventWord} {w : EventWord} (hc : s.cfg.Admissible)
    (ht : s.trace = .events words) (hmem : w ∈ words) (hw : wordValid w = false) : fetch s = .refuse .invalidWord := by
  have hall : ¬ words.all wordValid = true := fun h => by
    rw [List.all_eq_true.mp h w hmem] at hw
    cases hw
  simp only [fetch, ht, if_pos hc, if_neg hall]

/-- Settles O3: no event has such fields, and a trace with an invalid word is refused by the fetch. -/
theorem invalidWordsRefuseTheTrace : Obligations.InvalidWordsRefuseTheTrace := by
  refine ⟨?reservedOp, ?nonzeroZ, ?nonzeroA, ?nonzeroD, ?trace⟩
  case reservedOp =>
    intro w hlow hhigh
    refine wordValid_eq_false fun i hop _ _ _ => ?_
    have := opCode_not_reserved i
    rw [hop] at hlow hhigh
    omega
  case nonzeroZ => exact fun w hz => wordValid_eq_false fun i _ hz0 _ _ => hz hz0
  case nonzeroA =>
    intro w ha hfbwr hfbrd
    refine wordValid_eq_false fun i hop _ hai _ => ?_
    have huses : ¬ i.usesA = true := fun h => (opCode_of_usesA h).elim (hop ▸ hfbwr) (hop ▸ hfbrd)
    exact ha (hai.trans (aOperand_of_not_usesA huses))
  case nonzeroD =>
    intro w hd hhtick hfbwr
    refine wordValid_eq_false fun i hop _ _ hdi => ?_
    have huses : ¬ i.usesD = true := fun h => (opCode_of_usesD h).elim (hop ▸ hhtick) (hop ▸ hfbwr)
    exact hd (hdi.trans (dOperand_of_not_usesD huses))
  case trace =>
    intro s words w hc ht hmem hw
    simp only [step, fetch_events_invalidWord hc ht hmem hw]

/-- Settles O4: each of the nine words is the word of its event. -/
theorem specWordsDecode : Obligations.SpecWordsDecode :=
  ⟨decode_encode .nop, decode_encode .vtick, decode_encode (.htick 255), decode_encode (.fbwr 1 0x1B), decode_encode (.fbrd 49),
    decode_encode .rdet, decode_encode .start, decode_encode .stop, decode_encode .reset⟩

end Sys2Proof.Machine
end

section
/-! The vertical handler's statements (40_vertical_handler.md): what VTICK writes, when the handler events are steps at all, and
what the elapsed counter counts. -/

namespace Sys2Proof.Machine

/-! ## The elapsed counter over one event (R77, R21) -/

theorem vtickWrites_et_lt (s : State) : s.vtickWrites.et < 2 ^ s.vtickWrites.cfg.etW :=
  Nat.mod_lt _ (Nat.two_pow_pos _)

/-- ET has two writers, VTICK and RESET; every other event keeps it. -/
theorem exec_et {i : Instr} {s t : State} (h : exec i s = .next t) (hvtick : i ≠ .vtick) (hreset : i ≠ .reset) :
    t.et = s.et := by
  rcases exec_next_cases h with ⟨-, rfl⟩ | ⟨hi, -, -⟩ | ⟨j, -, -, hline⟩ | ⟨a, d, -, rfl⟩ | ⟨a, -, rfl⟩ | ⟨-, rfl⟩ |
    ⟨-, rfl⟩ | ⟨-, rfl⟩ | ⟨hi, -⟩
  · rfl
  · exact absurd hi hvtick
  · rcases hline with ⟨-, rfl⟩ | ⟨-, rfl⟩ | ⟨-, -, rfl⟩
    · exact skipLine_et s
    · exact idleLine_et s
    · exact finishLine_et s
  · exact hostWrite_et s a d
  · exact returnValue_et s _
  · exact returnValue_et s _
  · exact startWrites_et s
  · exact stopWrites_et s
  · exact absurd hi hreset

theorem exec_vtick_next {s t : State} (h : exec .vtick s = .next t) : s.run = true ∧ t = s.vtickWrites := by
  simpa using exec_next_cases h

/-- An event but RESET keeps ET within its width and moves it by the number of VTICKs it is. -/
theorem exec_et_count {i : Instr} {s t : State} (h : exec i s = .next t) (hreset : i ≠ .reset)
    (het : s.et < 2 ^ s.cfg.etW) :
    t.et < 2 ^ t.cfg.etW ∧ t.et = (s.et + [i].count .vtick) % 2 ^ s.cfg.etW := by
  by_cases hvtick : i = .vtick
  case pos =>
    subst hvtick
    obtain ⟨-, rfl⟩ := exec_vtick_next h
    exact ⟨vtickWrites_et_lt s, by rw [List.count_singleton_self, vtickWrites_et]⟩
  case neg =>
    have hkept : t.et = s.et := exec_et h hvtick hreset
    have hcount : [i].count .vtick = 0 := List.count_eq_zero.mpr (by simpa using Ne.symm hvtick)
    exact ⟨by rw [hkept, exec_cfg h]; exact het, by rw [hkept, hcount, Nat.add_zero, Nat.mod_eq_of_lt het]⟩

/-- Settles O11, by induction on the run: the first event moves ET by its own count, the rest of the run by theirs, and the
remainders add up. -/
theorem elapsedCounterCountsVticks : Obligations.ElapsedCounterCountsVticks := by
  intro es
  induction es with
  | nil =>
    intro s t het _ h
    obtain rfl : s = t := Host.Outcome.next.inj h
    exact (Nat.mod_eq_of_lt het).symm
  | cons e es ih =>
    intro s t het hreset h
    have hfirst : e ≠ .reset := (List.ne_of_not_mem_cons hreset).symm
    have hrest : .reset ∉ es := List.not_mem_of_not_mem_cons hreset
    obtain ⟨u, hexec, hrun⟩ := runEvents_cons.mp h
    obtain ⟨hlt, hmoved⟩ := exec_et_count hexec hfirst het
    have hcount : (e :: es).count .vtick = [e].count .vtick + es.count .vtick := List.count_append (l₁ := [e])
    calc t.et
        = (u.et + es.count .vtick) % 2 ^ u.cfg.etW := ih u t hlt hrest hrun
      _ = ((s.et + [e].count .vtick) % 2 ^ s.cfg.etW + es.count .vtick) % 2 ^ s.cfg.etW := by
          rw [hmoved, exec_cfg hexec]
      _ = (s.et + (e :: es).count .vtick) % 2 ^ s.cfg.etW := by rw [Nat.mod_add_mod, Nat.add_assoc, hcount]

/-! ## VTICK and RUN (R77, R78, R81) -/

theorem hsync_congr {s t : State} (hcfg : t.cfg = s.cfg) (hrun : t.run = s.run) (hhcnt : t.hcnt = s.hcnt) :
    t.hsync = s.hsync := by
  simp only [State.hsync, hcfg, hrun, hhcnt]

theorem vsync_congr {s t : State} (hcfg : t.cfg = s.cfg) (hrun : t.run = s.run) (hvcnt : t.vcnt = s.vcnt) :
    t.vsync = s.vsync := by
  simp only [State.vsync, hcfg, hrun, hvcnt]

/-- Settles O9: the result is `vtickWrites`, which leaves alone what a byte and the sync lines are read from. -/
theorem vtickResult : Obligations.VtickResult := by
  intro s hrun
  exact ⟨s.vtickWrites, exec_vtick hrun, rfl, memRead_congr (vtickWrites_fb s),
    hsync_congr (vtickWrites_cfg s) (vtickWrites_run s) (vtickWrites_hcnt s),
    vsync_congr (vtickWrites_cfg s) (vtickWrites_run s) (vtickWrites_vcnt s)⟩

theorem exec_vtick_disarmed {s : State} (h : s.run = false) : exec .vtick s = .refused .handlerDisarmed := by
  simp [exec, execVtick, h]

/-- Settles O10: both handler events test RUN before anything else. -/
theorem handlerEventsNeedRun : Obligations.HandlerEventsNeedRun :=
  fun _ j hrun => ⟨exec_vtick_disarmed hrun, exec_htick_disarmed j hrun⟩

end Sys2Proof.Machine
end

section
/-! The horizontal handler's statements about one event (41_horizontal_handler.md R83 to R95): what each case of HTICK writes, and
what the entry jitter changes. -/

namespace Sys2Proof.Machine

/-! ## The alignment (R87, R88) -/

/-- Settles O18: the delay makes up what the jitter leaves of the window. -/
theorem alignmentReachesEmitStart : Obligations.AlignmentReachesEmitStart := by
  intro c j hj
  simp only [alignDelay, Config.emitStart]
  omega

/-! ## The three cases (R85, R86, R94) -/

/-- Settles O12. -/
theorem htickSkipLine : Obligations.HtickSkipLine :=
  fun _ j hrun hvskip => exec_htick_skip j hrun (lineCase_skip.mpr hvskip)

/-- Settles O13. -/
theorem htickIdleLine : Obligations.HtickIdleLine :=
  fun _ j hrun hvskip hrow => exec_htick_idle j hrun (lineCase_idle.mpr ⟨hvskip, hrow⟩)

/-- Settles O14: the event is `finishLine`, and its record holds `rowSamples`. -/
theorem htickEmitLine : Obligations.HtickEmitLine := by
  intro s j hrun hvskip hrow hj
  exact ⟨s.rowSamples, s.finishLine, exec_htick_emit hrun (lineCase_emit.mpr ⟨hvskip, hrow⟩) hj, rfl, rowSamples_length s,
    fun _ hn => rowSamples_getElem? s hn⟩

/-- Settles O15. -/
theorem emitLineLeavesOutputBlank : Obligations.EmitLineLeavesOutputBlank :=
  fun s _ hrun hvskip hrow hj => ⟨s.finishLine, exec_htick_emit hrun (lineCase_emit.mpr ⟨hvskip, hrow⟩) hj,
    finishLine_color s, finishLine_seq s⟩

/-- Settles O16. -/
theorem htickJitterFault : Obligations.HtickJitterFault :=
  fun _ _ hrun hvskip hrow hj => exec_htick_late hrun (lineCase_emit.mpr ⟨hvskip, hrow⟩) hj

/-! ## What the jitter changes (R88, R95) -/

/-- Without pixels the line is done before anything looks at the jitter: either no step, or one result for all jitters (R95). -/
theorem exec_htick_of_not_emit {s : State} (h : s.lineCase ≠ .emit) :
    (∀ j, exec (.htick j) s = .refused .handlerDisarmed) ∨ ∃ t, ∀ j, exec (.htick j) s = .next t := by
  cases hrun : s.run with
  | false => exact .inl fun j => exec_htick_disarmed j hrun
  | true =>
    cases hline : s.lineCase with
    | skip => exact .inr ⟨_, fun j => exec_htick_skip j hrun hline⟩
    | emit => exact absurd hline h
    | idle => exact .inr ⟨_, fun j => exec_htick_idle j hrun hline⟩

/-- Settles O17: without pixels the jitter is not read, and with them it is only compared with the window. -/
theorem jitterDoesNotChangeTheResult : Obligations.JitterDoesNotChangeTheResult := by
  refine ⟨fun s i j hline => ?noPixels, fun s i j hi hj => ?inWindow⟩
  case noPixels =>
    rcases exec_htick_of_not_emit hline with hstop | ⟨t, hnext⟩
    · simp [hstop]
    · simp [hnext]
  case inWindow =>
    by_cases hline : s.lineCase = .emit
    · cases hrun : s.run with
      | false => rw [exec_htick_disarmed i hrun, exec_htick_disarmed j hrun]
      | true => rw [exec_htick_emit hrun hline hi, exec_htick_emit hrun hline hj]
    · rcases exec_htick_of_not_emit hline with hstop | ⟨t, hnext⟩
      · rw [hstop, hstop]
      · rw [hnext, hnext]

/-! ## One record for each HTICK (R83) -/

/-- Settles O19: `emit record` stands in each case of HTICK once, and in no other event. -/
theorem eachHtickAppendsOneRecord : Obligations.EachHtickAppendsOneRecord := by
  intro i s t h
  rcases exec_next_cases h with ⟨rfl, rfl⟩ | ⟨rfl, -, rfl⟩ | ⟨j, rfl, -, hline⟩ | ⟨a, d, rfl, rfl⟩ | ⟨a, rfl, rfl⟩ |
    ⟨rfl, rfl⟩ | ⟨rfl, rfl⟩ | ⟨rfl, rfl⟩ | ⟨rfl, rfl⟩
  case inr.inr.inl =>
    refine ⟨fun _ => ?_, fun hother => absurd rfl hother⟩
    rcases hline with ⟨-, rfl⟩ | ⟨-, rfl⟩ | ⟨-, -, rfl⟩ <;> exact ⟨_, rfl⟩
  all_goals exact ⟨fun hhorizontal => by simp [handlerOf] at hhorizontal, fun _ => by simp⟩

end Sys2Proof.Machine
end

section
/-! The lines of a frame (41_horizontal_handler.md R98, R99): the counters and the records after each HTICK since the frame
started. -/

namespace Sys2Proof

/-- How many of the first `n` lines of a frame bear pixels: those after the skip lines, up to VSCALE lines for each row (R99). -/
def Config.pixelLines (c : Config) (n : Nat) : Nat := min (n - c.skipLines) (c.visibleLines * c.vscale)

theorem Config.vscale_le {c : Config} (h : c.Admissible) : c.vscale ≤ 2 ^ c.repW := by
  obtain ⟨-, -, -, -, -, -, -, -, -, hrepW, -⟩ := h
  exact hrepW

theorem Config.pixelLines_of_le_skipLines {c : Config} {n : Nat} (h : n ≤ c.skipLines) : c.pixelLines n = 0 := by
  simp only [Config.pixelLines, Nat.sub_eq_zero_of_le h, Nat.zero_min]

theorem Config.pixelLines_of_visible {c : Config} {n : Nat} (h : n - c.skipLines ≤ c.visibleLines * c.vscale) :
    c.pixelLines n = n - c.skipLines :=
  Nat.min_eq_left h

theorem Config.pixelLines_of_below {c : Config} {n : Nat} (h : c.visibleLines * c.vscale ≤ n - c.skipLines) :
    c.pixelLines n = c.visibleLines * c.vscale :=
  Nat.min_eq_right h

/-- A visible line is one more that bears pixels. -/
theorem Config.pixelLines_succ_of_visible {c : Config} {n : Nat} (hskip : c.skipLines ≤ n)
    (h : n - c.skipLines < c.visibleLines * c.vscale) : c.pixelLines (n + 1) = n - c.skipLines + 1 := by
  rw [Config.pixelLines_of_visible (by omega), Nat.sub_add_comm hskip]

theorem Config.pixelLines_succ_of_below {c : Config} {n : Nat} (h : c.visibleLines * c.vscale ≤ n - c.skipLines) :
    c.pixelLines (n + 1) = c.visibleLines * c.vscale :=
  Config.pixelLines_of_below (by omega)

namespace Machine

/-- The records of the first `n` lines of a frame that starts at `s` (R99). -/
def State.frameRecords (s : State) (n : Nat) : List LineRecord :=
  List.replicate (min n s.cfg.skipLines) .noPixels ++
    (List.range (s.cfg.pixelLines n)).map (fun i => ({ s with row := i / s.cfg.vscale } : State).lineRecord) ++
    List.replicate (n - s.cfg.skipLines - s.cfg.pixelLines n) .noPixels

theorem frameRecords_zero (s : State) : s.frameRecords 0 = [] := by
  simp [State.frameRecords, Config.pixelLines]

theorem frameRecords_skip {s : State} {n : Nat} (h : n < s.cfg.skipLines) :
    s.frameRecords (n + 1) = s.frameRecords n ++ [.noPixels] := by
  have hbefore : n - s.cfg.skipLines = 0 := Nat.sub_eq_zero_of_le h.le
  have hafter : n + 1 - s.cfg.skipLines = 0 := Nat.sub_eq_zero_of_le h
  simp [State.frameRecords, Config.pixelLines_of_le_skipLines h.le, Config.pixelLines_of_le_skipLines h, hbefore, hafter,
    Nat.min_eq_left h.le, Nat.min_eq_left (Nat.succ_le_of_lt h), List.replicate_succ']

theorem frameRecords_emit {s : State} {n : Nat} (hskip : s.cfg.skipLines ≤ n)
    (hvisible : n - s.cfg.skipLines < s.cfg.visibleLines * s.cfg.vscale) :
    s.frameRecords (n + 1) =
      s.frameRecords n ++ [({ s with row := s.cfg.pixelLines n / s.cfg.vscale } : State).lineRecord] := by
  simp [State.frameRecords, Config.pixelLines_of_visible hvisible.le, Config.pixelLines_succ_of_visible hskip hvisible,
    Nat.sub_add_comm hskip, Nat.min_eq_right hskip, Nat.min_eq_right (Nat.le_succ_of_le hskip), List.range_succ]

theorem frameRecords_idle {s : State} {n : Nat} (hskip : s.cfg.skipLines ≤ n)
    (hbelow : s.cfg.visibleLines * s.cfg.vscale ≤ n - s.cfg.skipLines) :
    s.frameRecords (n + 1) = s.frameRecords n ++ [.noPixels] := by
  simp [State.frameRecords, Config.pixelLines_of_below hbelow, Config.pixelLines_succ_of_below hbelow,
    Nat.sub_add_comm hskip, Nat.sub_add_comm hbelow, Nat.min_eq_right hskip, Nat.min_eq_right (Nat.le_succ_of_le hskip),
    List.replicate_succ']

/-- `t` is where the first `n` lines of a frame that starts at `s` lead (R98, R99). -/
structure State.FrameAfter (s t : State) (n : Nat) : Prop where
  cfg : t.cfg = s.cfg
  vskip : t.vskip = s.cfg.skipLines - n
  row : t.row = s.cfg.pixelLines n / s.cfg.vscale
  rep : t.rep = s.cfg.pixelLines n % s.cfg.vscale
  aline : t.aline = (s.cfg.alineSentinel + s.cfg.pixelLines n) % 2 ^ s.cfg.alineW
  et : t.et = s.et
  run : t.run = s.run
  fb : t.fb = s.fb
  records : t.records = s.records ++ s.frameRecords n

/-- The start of a frame, as a VTICK or RESET leaves it (40_vertical_handler.md R77, 10_state.md R35). -/
theorem State.FrameAfter.zero {s : State} (hvskip : s.vskip = s.cfg.skipLines) (hrow : s.row = 0) (hrep : s.rep = 0)
    (haline : s.aline = s.cfg.alineSentinel) : s.FrameAfter s 0 where
  cfg := rfl
  vskip := hvskip
  row := by rw [hrow, Config.pixelLines_of_le_skipLines (Nat.zero_le _), Nat.zero_div]
  rep := by rw [hrep, Config.pixelLines_of_le_skipLines (Nat.zero_le _), Nat.zero_mod]
  aline := by
    rw [haline, Config.pixelLines_of_le_skipLines (Nat.zero_le _), Nat.add_zero,
      Nat.mod_eq_of_lt (Config.alineSentinel_lt _)]
  et := rfl
  run := rfl
  fb := rfl
  records := by rw [frameRecords_zero, List.append_nil]

/-- Counting up by one steps a quotient and a remainder as R92 steps ROW and REP. -/
theorem succ_div_mod (m : Nat) {v : Nat} (hv : 0 < v) :
    (m + 1) / v = (if m % v + 1 = v then m / v + 1 else m / v) ∧
    (m + 1) % v = (if m % v + 1 = v then 0 else m % v + 1) := by
  have hsplit : m % v + v * (m / v) = m := Nat.mod_add_div m v
  have hlt : m % v < v := Nat.mod_lt m hv
  rw [Nat.div_mod_unique hv]
  split
  next hlast => exact ⟨by rw [Nat.mul_add]; omega, hv⟩
  next hmore => omega

section FrameLine

variable {s t : State} {n : Nat}

theorem State.FrameAfter.skipLine (h : s.FrameAfter t n) (hn : n < s.cfg.skipLines) : s.FrameAfter t.skipLine (n + 1) := by
  have hbefore := Config.pixelLines_of_le_skipLines hn.le
  have hafter := Config.pixelLines_of_le_skipLines (Nat.succ_le_of_lt hn)
  exact
    { cfg := h.cfg
      vskip := by rw [skipLine_vskip, h.vskip, Nat.sub_sub]
      row := by rw [skipLine_row, h.row, hbefore, hafter]
      rep := by rw [skipLine_rep, h.rep, hbefore, hafter]
      aline := by rw [skipLine_aline, h.aline, hbefore, hafter]
      et := h.et
      run := h.run
      fb := h.fb
      records := by rw [skipLine_records, h.records, frameRecords_skip hn, List.append_assoc] }

theorem State.FrameAfter.idleLine (h : s.FrameAfter t n) (hskip : s.cfg.skipLines ≤ n)
    (hbelow : s.cfg.visibleLines * s.cfg.vscale ≤ n - s.cfg.skipLines) : s.FrameAfter t.idleLine (n + 1) := by
  have hbefore := Config.pixelLines_of_below hbelow
  have hafter := Config.pixelLines_succ_of_below hbelow
  exact
    { cfg := h.cfg
      vskip := by rw [idleLine_vskip, h.vskip]; omega
      row := by rw [idleLine_row, h.row, hbefore, hafter]
      rep := by rw [idleLine_rep, h.rep, hbefore, hafter]
      aline := by rw [idleLine_aline, h.aline, hbefore, hafter]
      et := h.et
      run := h.run
      fb := h.fb
      records := by rw [idleLine_records, h.records, frameRecords_idle hskip hbelow, List.append_assoc] }

/-- REP stays below VSCALE, which its width holds (00_scope.md R12), so it never wraps within a frame. -/
theorem State.FrameAfter.finishLine (h : s.FrameAfter t n) (hadm : s.cfg.Admissible) (hskip : s.cfg.skipLines ≤ n)
    (hvisible : n - s.cfg.skipLines < s.cfg.visibleLines * s.cfg.vscale) : s.FrameAfter t.finishLine (n + 1) := by
  have hv := Config.vscale_pos hadm
  have hsucc : s.cfg.pixelLines (n + 1) = s.cfg.pixelLines n + 1 := by
    rw [Config.pixelLines_of_visible hvisible.le, Config.pixelLines_succ_of_visible hskip hvisible]
  have hrecord : t.lineRecord = ({ s with row := s.cfg.pixelLines n / s.cfg.vscale } : State).lineRecord :=
    lineRecord_congr h.cfg h.row h.fb
  obtain ⟨hdiv, hmod⟩ := succ_div_mod (s.cfg.pixelLines n) hv
  exact
    { cfg := h.cfg
      vskip := by rw [finishLine_vskip, h.vskip]; omega
      row := by rw [finishLine_row, h.row, h.rep, h.cfg, hsucc, hdiv]
      rep := by
        rw [finishLine_rep, h.rep, h.cfg, hsucc, hmod]
        split
        · rfl
        · have hlt : s.cfg.pixelLines n % s.cfg.vscale < s.cfg.vscale := Nat.mod_lt _ hv
          have hwidth := Config.vscale_le hadm
          exact Nat.mod_eq_of_lt (by omega)
      aline := by rw [finishLine_aline, h.aline, h.cfg, hsucc, Nat.mod_add_mod, Nat.add_assoc]
      et := h.et
      run := h.run
      fb := h.fb
      records := by rw [finishLine_records, h.records, hrecord, frameRecords_emit hskip hvisible, List.append_assoc] }

/-- One more HTICK inside the window is one more line of the frame: a skip line, a line of the row it is due, or an idle line. -/
theorem exec_htick_frame {j : Byte} (hadm : s.cfg.Admissible) (hrun : s.run = true) (h : s.FrameAfter t n)
    (hj : j.toNat < s.cfg.window) : ∃ u, exec (.htick j) t = .next u ∧ s.FrameAfter u (n + 1) := by
  have hv := Config.vscale_pos hadm
  have htrun : t.run = true := h.run.trans hrun
  rcases Nat.lt_or_ge n s.cfg.skipLines with hn | hskip
  · have hline : t.lineCase = .skip := lineCase_skip.mpr (by rw [h.vskip]; omega)
    exact ⟨_, exec_htick_skip j htrun hline, h.skipLine hn⟩
  have hvskip : t.vskip = 0 := by rw [h.vskip]; omega
  rcases Nat.lt_or_ge (n - s.cfg.skipLines) (s.cfg.visibleLines * s.cfg.vscale) with hvisible | hbelow
  · have hrow : t.row < t.cfg.visibleLines := by
      rw [h.row, h.cfg, Config.pixelLines_of_visible hvisible.le]
      exact Nat.div_lt_of_lt_mul (Nat.mul_comm _ _ ▸ hvisible)
    exact ⟨_, exec_htick_emit htrun (lineCase_emit.mpr ⟨hvskip, hrow⟩) (h.cfg ▸ hj),
      h.finishLine hadm hskip hvisible⟩
  · have hrow : t.cfg.visibleLines ≤ t.row := by
      rw [h.row, h.cfg, Config.pixelLines_of_below hbelow, Nat.mul_div_cancel _ hv]
    exact ⟨_, exec_htick_idle j htrun (lineCase_idle.mpr ⟨hvskip, hrow⟩), h.idleLine hskip hbelow⟩

theorem runEvents_htick_frame (hadm : s.cfg.Admissible) (hrun : s.run = true) (js : List Byte)
    (h : s.FrameAfter t n) (hjs : ∀ j ∈ js, j.toNat < s.cfg.window) :
    ∃ u, runEvents (js.map .htick) t = .next u ∧ s.FrameAfter u (n + js.length) := by
  induction js generalizing t n with
  | nil => exact ⟨t, runEvents_nil t, h⟩
  | cons j js ih =>
    obtain ⟨hj, hjs⟩ := List.forall_mem_cons.mp hjs
    obtain ⟨u, hexec, hu⟩ := exec_htick_frame hadm hrun h hj
    obtain ⟨v, hruns, hv⟩ := ih hu hjs
    refine ⟨v, runEvents_cons.mpr ⟨u, hexec, hruns⟩, ?_⟩
    rwa [List.length_cons, Nat.add_comm js.length, ← Nat.add_assoc]

end FrameLine

/-- Settles O20, by induction on the run of HTICKs from the start of the frame. -/
theorem frameLinesFollowRowSelection : Obligations.FrameLinesFollowRowSelection := by
  intro s js hadm hrun hvskip hrow hrep haline hjs
  obtain ⟨t, hruns, ht⟩ := runEvents_htick_frame hadm hrun js (State.FrameAfter.zero hvskip hrow hrep haline) hjs
  rw [Nat.zero_add] at ht
  refine ⟨t, hruns, fun m hm => ?_⟩
  obtain rfl : m = s.cfg.pixelLines js.length := hm
  refine ⟨ht.vskip, ht.row, ht.rep, ht.aline, ht.et, ht.run.trans hrun, ht.fb, ?_⟩
  simpa only [State.frameRecords, List.append_assoc] using ht.records

end Machine

end Sys2Proof
end

section
/-! The colours of a line (41_horizontal_handler.md R83, R90, R91): what the record of a line shows at each phase, and that
the colour output shows it (70_reset_and_hazards.md R165, R166). -/

namespace Sys2Proof.Machine

/-- Before EMIT_START a line record shows BLANK (R83). -/
theorem lineRecord_colorAt_of_lt {s : State} {phase : Nat} (h : phase < s.cfg.emitStart) :
    s.lineRecord.colorAt phase = blank :=
  if_pos h

/-- Sample K is shown from line phase EMIT_START + K × CPS on, for CPS cycles (R83, R90). -/
theorem lineRecord_colorAt_sample {s : State} {k ph : Nat} (hk : k < s.cfg.samplesPerLine) (hph : ph < s.cfg.cps) :
    s.lineRecord.colorAt (s.cfg.emitStart + k * s.cfg.cps + ph) =
      colorMap (sample (s.memRead (rowAddr s.cfg s.row (k / 4))) (k % 4)) := by
  have hlate : ¬ s.cfg.emitStart + k * s.cfg.cps + ph < s.cfg.emitStart := by omega
  have hindex : (s.cfg.emitStart + k * s.cfg.cps + ph - s.cfg.emitStart) / s.cfg.cps = k := by
    rw [Nat.add_assoc, Nat.add_sub_cancel_left, Nat.mul_comm, Nat.mul_add_div (Nat.zero_lt_of_lt hph),
      Nat.div_eq_of_lt hph, Nat.add_zero]
  simp only [State.lineRecord, LineRecord.colorAt, sampleColorAt, if_neg hlate, hindex, rowSamples_getElem? s hk]

/-- Settles O48: before EMIT_START both are BLANK; from there on both are sample K of the row. -/
theorem colourFollowsLineRecord : Obligations.ColourFollowsLineRecord := by
  intro s hs _
  refine ⟨hs.idleBlank, fun hbody => ?_⟩
  cases hseq : s.seq with
  | idle => exact absurd hseq hbody
  | align =>
    obtain ⟨-, hphase, hcolor⟩ := hs.align hseq
    have hearly : s.hcnt < s.cfg.emitStart := by unfold Config.emitStart; omega
    rw [hcolor, lineRecord_colorAt_of_lt hearly]
  | emit =>
    obtain ⟨hk, hph, hphase, hcurb, hcolor⟩ := hs.emit hseq
    rw [hphase, lineRecord_colorAt_sample hk hph, hcolor, hcurb]

end Sys2Proof.Machine
end

section
/-! SUPPORT. Stretches of cycles on one line: what they leave of the architectural state and the observation, and what they
show on the colour output. -/

namespace Sys2Proof.Machine

/-- The same architectural state, line records and returned values. -/
structure State.Agrees (s t : State) : Prop where
  arch : s.SameArch t
  records : s.records = t.records
  returned : s.returned = t.returned

theorem State.Agrees.refl (s : State) : s.Agrees s := ⟨⟨rfl, rfl, rfl, rfl, rfl, rfl, rfl, rfl⟩, rfl, rfl⟩

theorem agrees_observePins (p : PinsIn) (s : State) : (s.observePins p).Agrees s :=
  ⟨⟨rfl, rfl, rfl, rfl, rfl, rfl, rfl, rfl⟩, rfl, rfl⟩

/-- The sequencer data are no architectural state (10_state.md R28). -/
theorem agrees_waiting (s : State) (d : Nat) : (s.waiting d).Agrees s :=
  ⟨⟨rfl, rfl, rfl, rfl, rfl, rfl, rfl, rfl⟩, rfl, rfl⟩

theorem agrees_showing (s : State) (k ph : Nat) : (s.showing k ph).Agrees s :=
  ⟨⟨rfl, rfl, rfl, rfl, rfl, rfl, rfl, rfl⟩, rfl, rfl⟩

theorem State.SameArch.trans {s t u : State} (h : s.SameArch t) (h' : t.SameArch u) : s.SameArch u := by
  obtain ⟨hcfg, hvskip, haline, hrow, hrep, het, hrun, hfb⟩ := h
  obtain ⟨hcfg', hvskip', haline', hrow', hrep', het', hrun', hfb'⟩ := h'
  exact ⟨hcfg.trans hcfg', hvskip.trans hvskip', haline.trans haline', hrow.trans hrow', hrep.trans hrep',
    het.trans het', hrun.trans hrun', hfb.trans hfb'⟩

theorem State.Agrees.trans {s t u : State} (h : s.Agrees t) (h' : t.Agrees u) : s.Agrees u :=
  ⟨h.arch.trans h'.arch, h.records.trans h'.records, h.returned.trans h'.returned⟩

theorem State.Agrees.cfg {s t : State} (h : s.Agrees t) : s.cfg = t.cfg := by
  obtain ⟨hcfg, -⟩ := h.arch
  exact hcfg

theorem State.Agrees.lineRecord_eq {s t : State} (h : s.Agrees t) : s.lineRecord = t.lineRecord := by
  obtain ⟨hcfg, -, -, hrow, -, -, -, hfb⟩ := h.arch
  exact lineRecord_congr hcfg hrow hfb

/-- The end of a line reads nothing but what two agreeing states share. -/
theorem State.Agrees.finishLine {s t : State} (h : s.Agrees t) : s.finishLine.Agrees t.finishLine := by
  obtain ⟨hcfg, hvskip, haline, hrow, hrep, het, hrun, hfb⟩ := h.arch
  refine ⟨⟨hcfg, hvskip, ?_, ?_, ?_, het, hrun, hfb⟩, ?_, h.returned⟩
  · simp only [finishLine_aline, hcfg, haline]
  · simp only [finishLine_row, hcfg, hrow, hrep]
  · simp only [finishLine_rep, hcfg, hrep]
  · simp only [finishLine_records, h.records, h.lineRecord_eq]

/-- Cycles with the outputs `outs` lead from `s` to `t`, one line phase each: `t` agrees with `w`, and the colours are those of
the line record of `s`. -/
structure State.LineTo (s w t : State) (outs : List PinsOut) : Prop where
  agrees : t.Agrees w
  phase : t.hcnt = s.hcnt + outs.length
  pins : t.pins = s.pins ++ outs
  colors : outs.map PinsOut.color = (List.range outs.length).map (fun n => s.lineRecord.colorAt (s.hcnt + n))

theorem State.LineTo.nil (s : State) : s.LineTo s s [] :=
  ⟨.refl s, rfl, (List.append_nil _).symm, rfl⟩

/-- Two stretches of a line in a row. -/
theorem State.LineTo.append {s u v w t : State} {outs outs' : List PinsOut} (h : s.LineTo s u outs) (h' : u.LineTo v t outs')
    (hv : v.Agrees w) : s.LineTo w t (outs ++ outs') where
  agrees := h'.agrees.trans hv
  phase := by rw [h'.phase, h.phase, List.length_append, Nat.add_assoc]
  pins := by rw [h'.pins, h.pins, List.append_assoc]
  colors := by
    rw [List.map_append, h.colors, h'.colors, h.phase, h.agrees.lineRecord_eq, List.length_append, List.range_add,
      List.map_append, List.map_map]
    simp only [Function.comp_def, Nat.add_assoc]

theorem State.LineTo.pins_drop {s w t : State} {outs : List PinsOut} (h : s.LineTo w t outs) :
    t.pins.drop s.pins.length = outs := by
  rw [h.pins, List.drop_left]

end Sys2Proof.Machine
end

section
/-! SUPPORT. One cycle of a line, away from the end of LINE_PERIOD: no channel ticks, so no tick is lost and no flag comes up
(60_exceptions.md R132, R139 to R141). -/

namespace Sys2Proof.Machine

theorem hTick_eq_false {s : State} (h : s.hcnt + 1 < s.cfg.linePeriod) : s.hTick = false := by
  have hlast : s.hcnt ≠ s.cfg.linePeriod - 1 := by omega
  simp [State.hTick, hlast]

/-- The vertical channel ticks only where the horizontal one does (R141). -/
theorem vTick_eq_false {s : State} (hs : s.Inv) (hclk : s.cfg.ClockedAdmissible) (h : s.hcnt + 1 < s.cfg.linePeriod) :
    s.vTick = false := by
  obtain ⟨-, -, hstep⟩ := hs.timers hclk
  have hlast : s.vcnt ≠ s.cfg.framePeriod - 1 := fun hv => by
    have := framePeriod_pred_mod hclk
    rw [← hv, hstep] at this
    omega
  simp [State.vTick, hlast]

/-- A cycle without reset, override and tick is its body and the timers (70_reset_and_hazards.md R161). -/
theorem cycle_eq_landTimers {p : PinsIn} {s b : State} (hrst : p.rst = false) (hov : s.overridden p = false)
    (hphase : s.hcnt + 1 < s.cfg.linePeriod) (hb : (s.observePins p).cycleBody p = some b) :
    cycle p s = .next (State.landTimers p s b) := by
  simp [cycle, hrst, hb, hov, State.lostTick, hTick_eq_false hphase]

/-- Such a cycle is one phase of the line, when its body does what leads to `w` and the output shows the line record. -/
theorem lineTo_landTimers {p : PinsIn} {s w b : State} (hrun : s.run = true) (hphase : s.hcnt + 1 < s.cfg.linePeriod)
    (hcolor : s.color = s.lineRecord.colorAt s.hcnt) (hpins : b.pins = s.pins ++ [s.portsOut p]) (hb : b.Agrees w) :
    s.LineTo w (State.landTimers p s b) [s.portsOut p] where
  agrees := ⟨hb.arch, hb.records, hb.returned⟩
  phase := nextHcnt_eq_succ hrun hphase
  pins := hpins
  colors := by simpa [State.portsOut] using hcolor

end Sys2Proof.Machine
end

section
/-! A body in progress (41_horizontal_handler.md R96, 42_lifecycle.md R103): each cycle is a sequencer step, whatever the inputs,
until the line ends at BLANK_START. -/

namespace Sys2Proof.Machine

section Body

variable {s : State} (hs : s.Inv) (hbody : s.seq ≠ .idle)

include hs hbody

/-- A body runs in a clocked run only (10_state.md R27). -/
theorem trace_of_body : ∃ ps, s.trace = .cycles ps := by
  cases htrace : s.trace with
  | events words => exact absurd (idle_of_events hs.events htrace) hbody
  | cycles ps => exact ⟨ps, rfl⟩

/-- A body is over by BLANK_START. -/
theorem hcnt_lt_blankStart : s.hcnt < s.cfg.blankStart := by
  cases hseq : s.seq with
  | idle => exact absurd hseq hbody
  | align =>
    obtain ⟨-, hphase, -⟩ := hs.align hseq
    unfold Config.blankStart Config.emitStart
    omega
  | emit =>
    obtain ⟨hk, hph, hphase, -⟩ := hs.emit hseq
    exact hphase ▸ Config.samplePhase_lt_blankStart hk hph

/-- What a sequencer step leads to: the body goes on in one of its two forms, or the line ends, and then at BLANK_START. -/
theorem cycleBody_of_body (p : PinsIn) :
    ∃ b, s.cycleBody p = some b ∧
      ((b.seq ≠ .idle ∧ b.Agrees s ∧ b.pins = s.pins) ∨ (s.hcnt + 1 = s.cfg.blankStart ∧ b = s.finishLine)) := by
  have hentry := entered_of_not_idle (p := p) hbody
  cases hseq : s.seq with
  | idle => exact absurd hseq hbody
  | align =>
    refine ⟨s.alignStep, by simp only [State.cycleBody, hentry, hseq], .inl ?_⟩
    by_cases hd : s.dly = 0
    · rw [alignStep_eq_showing hd]
      exact ⟨nofun, agrees_showing s 0 0, rfl⟩
    · rw [alignStep_eq_waiting hseq hd]
      exact ⟨nofun, agrees_waiting s _, rfl⟩
  | emit =>
    refine ⟨s.emitStep, by simp only [State.cycleBody, hentry, hseq], ?_⟩
    rcases emitStep_cases hseq hs.emit with ⟨-, hstep⟩ | ⟨-, -, hstep⟩ | ⟨hph, hk, hstep⟩
    · rw [hstep]
      exact .inl ⟨nofun, agrees_showing s _ _, rfl⟩
    · rw [hstep]
      exact .inl ⟨nofun, agrees_showing s _ _, rfl⟩
    · obtain ⟨-, -, hphase, -⟩ := hs.emit hseq
      refine .inr ⟨?_, hstep⟩
      rw [Config.blankStart, ← hk, Nat.add_mul, Nat.one_mul]
      omega

end Body

/-- One cycle of a body: it goes on, or the line ends. -/
theorem cycle_of_body {p : PinsIn} {s : State} (hs : s.Inv) (hclk : s.cfg.ClockedAdmissible) (hbody : s.seq ≠ .idle)
    (hrst : p.rst = false) :
    ∃ t, cycle p s = .next t ∧
      ((t.seq ≠ .idle ∧ t.Inv ∧ s.LineTo s t [s.portsOut p]) ∨
        (s.hcnt + 1 = s.cfg.blankStart ∧ t.seq = .idle ∧ t.color = blank ∧ s.LineTo s.finishLine t [s.portsOut p])) := by
  obtain ⟨ps, htrace⟩ := trace_of_body hs hbody
  have hrun := run_of_body hs.stopped hbody
  have hphase := Nat.lt_of_le_of_lt (hcnt_lt_blankStart hs hbody) (Config.blankStart_lt_linePeriod hclk)
  obtain ⟨-, hcolors⟩ := colourFollowsLineRecord s hs hclk
  have hov : s.overridden p = false := overridden_of_not_ready (by simp [State.hReady, hbody])
  have hobs := agrees_observePins p s
  obtain ⟨b, hb, hnext⟩ := cycleBody_of_body (inv_observePins p hs) hbody p
  have hcycle := cycle_eq_landTimers hrst hov hphase hb
  refine ⟨_, hcycle, ?_⟩
  rcases hnext with ⟨hgoes, hagrees, hpins⟩ | ⟨hend, rfl⟩
  · exact .inl ⟨hgoes, inv_cycle hs hclk htrace hcycle, lineTo_landTimers hrun hphase (hcolors hbody) hpins
      (hagrees.trans hobs)⟩
  · exact .inr ⟨hend, rfl, rfl, lineTo_landTimers hrun hphase (hcolors hbody) rfl hobs.finishLine⟩

/-- A body in progress ends at BLANK_START, and until then the host port is not ready (R103, 70_reset_and_hazards.md R168). -/
theorem runCycles_of_body (ps : List PinsIn) {s : State} (hs : s.Inv) (hclk : s.cfg.ClockedAdmissible)
    (hbody : s.seq ≠ .idle) (hrst : ∀ p ∈ ps, p.rst = false) (hlength : s.hcnt + ps.length = s.cfg.blankStart) :
    ∃ t outs, runCycles ps s = .next t ∧ t.seq = .idle ∧ t.color = blank ∧ s.LineTo s.finishLine t outs ∧
      outs.length = ps.length ∧ ∀ o ∈ outs, o.hReady = false := by
  have hbusy : ∀ p, (s.portsOut p).hReady = false := fun p => by simp [State.portsOut, State.hReady, hbody]
  induction ps generalizing s with
  | nil =>
    have hbefore := hcnt_lt_blankStart hs hbody
    rw [List.length_nil] at hlength
    omega
  | cons p ps ih =>
    obtain ⟨hp, hps⟩ := List.forall_mem_cons.mp hrst
    rw [List.length_cons] at hlength
    obtain ⟨u, hcycle, ⟨hgoes, hu, hline⟩ | ⟨hend, hidle, hcolor, hline⟩⟩ := cycle_of_body hs hclk hbody hp
    · have hcfg : u.cfg = s.cfg := cycle_cfg hcycle
      have hphase : u.hcnt = s.hcnt + 1 := hline.phase
      obtain ⟨t, outs, hruns, hidle, hcolor, hend, houts, hnotReady⟩ :=
        ih hu (hcfg ▸ hclk) hgoes hps (by rw [hcfg]; omega) (fun q => by simp [State.portsOut, State.hReady, hgoes])
      exact ⟨t, s.portsOut p :: outs, runCycles_cons.mpr ⟨u, hcycle, hruns⟩, hidle, hcolor,
        hline.append hend hline.agrees.finishLine, by rw [List.length_cons, houts, List.length_cons],
        List.forall_mem_cons.mpr ⟨hbusy p, hnotReady⟩⟩
    · obtain rfl : ps = [] := List.length_eq_zero_iff.mp (by omega)
      exact ⟨u, [s.portsOut p], runCycles_cons.mpr ⟨u, hcycle, runCycles_nil u⟩, hidle, hcolor, hline, rfl,
        List.forall_mem_singleton.mpr (hbusy p)⟩

/-- Settles O49: the line ends as `finishLine`, which is the event on a pixel-bearing line. -/
theorem bodyRunsToBlankStart : Obligations.BodyRunsToBlankStart := by
  intro s ps hs hclk hbody hrst hlength
  obtain ⟨t, outs, hruns, hidle, hcolor, hline, houts, hnotReady⟩ := runCycles_of_body ps hs hclk hbody hrst hlength
  have hexec : exec (.htick 0) s = .next s.finishLine :=
    exec_htick_emit (run_of_body hs.stopped hbody) (hs.pixelBearing hbody) (Config.window_pos hs.admissible)
  refine ⟨t, s.finishLine, hruns, hexec, hline.agrees.arch, hline.agrees.records, hline.agrees.returned, hidle, hcolor,
    by rw [hline.phase, houts, hlength], ?_, ?_⟩
  · rw [hline.pins_drop, hline.colors, houts]
  · rw [hline.pins_drop]
    simpa using hnotReady

end Sys2Proof.Machine
end

section
/-! SUPPORT. The input still to come is a parameter of the step relation (10_state.md R34): no cycle reads or writes it. -/

namespace Sys2Proof.Machine

/-- The same state with another input still to come. -/
def State.withTrace (s : State) (tr : Trace) : State := { s with trace := tr }

theorem withTrace_ite (c : Prop) [Decidable c] (s t : State) (tr : Trace) :
    (if c then s else t).withTrace tr = if c then s.withTrace tr else t.withTrace tr :=
  apply_ite (State.withTrace · tr) c s t

theorem enterHorizontal_withTrace (s : State) (tr : Trace) :
    (s.withTrace tr).enterHorizontal = s.enterHorizontal.map (·.withTrace tr) := by
  unfold State.enterHorizontal
  rw [lineCase_congr (s := s) (t := s.withTrace tr) rfl rfl rfl]
  cases s.lineCase with
  | skip => rfl
  | idle => rfl
  | emit =>
    dsimp only
    rw [apply_ite (Option.map (State.withTrace · tr))]
    rfl

theorem alignStep_withTrace (s : State) (tr : Trace) : (s.withTrace tr).alignStep = s.alignStep.withTrace tr := by
  unfold State.alignStep
  rw [withTrace_ite]
  rfl

theorem nextSample_withTrace (s : State) (tr : Trace) : (s.withTrace tr).nextSample = s.nextSample.withTrace tr := by
  unfold State.nextSample
  rw [withTrace_ite]
  rfl

theorem emitStep_withTrace (s : State) (tr : Trace) : (s.withTrace tr).emitStep = s.emitStep.withTrace tr := by
  unfold State.emitStep
  rw [nextSample_withTrace, withTrace_ite, withTrace_ite]
  rfl

theorem hostWrite_withTrace (s : State) (tr : Trace) (a : Addr) (d : Byte) :
    (s.withTrace tr).hostWrite a d = (s.hostWrite a d).withTrace tr := by
  unfold State.hostWrite
  rw [withTrace_ite]
  rfl

theorem performHost_withTrace (s : State) (tr : Trace) (i : Instr) :
    (s.withTrace tr).performHost i = (s.performHost i).withTrace tr := by
  cases i with
  | fbwr a d => exact hostWrite_withTrace s tr a d
  | _ => rfl

theorem cycleBody_withTrace (p : PinsIn) (s : State) (tr : Trace) :
    (s.withTrace tr).cycleBody p = (s.cycleBody p).map (·.withTrace tr) := by
  have hentered : (s.withTrace tr).entered p = s.entered p := rfl
  have haccepted : (s.withTrace tr).accepted p = s.accepted p := rfl
  have hseq : (s.withTrace tr).seq = s.seq := rfl
  unfold State.cycleBody
  rw [hentered, haccepted, hseq]
  split
  · rfl
  · exact enterHorizontal_withTrace s tr
  · split
    · rw [alignStep_withTrace, Option.map_some]
    · rw [emitStep_withTrace, Option.map_some]
    · split
      · rw [performHost_withTrace, Option.map_some]
      · rfl

theorem cycle_withTrace {p : PinsIn} {s t : State} (tr : Trace) (h : cycle p s = .next t) :
    cycle p (s.withTrace tr) = .next (t.withTrace tr) := by
  rcases cycle_next_cases h with ⟨hrst, rfl⟩ | ⟨hrst, b, hbody, hland⟩
  · exact cycle_rst hrst
  · have hov : (s.withTrace tr).overridden p = s.overridden p := rfl
    have hlost : (s.withTrace tr).lostTick p = s.lostTick p := rfl
    have hbody' : ((s.withTrace tr).observePins p).cycleBody p = some (b.withTrace tr) := by
      have hobs : (s.withTrace tr).observePins p = (s.observePins p).withTrace tr := rfl
      rw [hobs, cycleBody_withTrace, hbody, Option.map_some]
    rcases hland with ⟨hstop, rfl⟩ | ⟨hgoes, hkept, rfl⟩
    · simp [cycle, hrst, hbody', hov, hstop]
    · have htimers : State.landTimers p (s.withTrace tr) (b.withTrace tr) = (State.landTimers p s b).withTrace tr := rfl
      simp [cycle, hrst, hbody', hov, hgoes, hlost, hkept, htimers]

theorem runCycles_withTrace {ps : List PinsIn} {s t : State} (tr : Trace) (h : runCycles ps s = .next t) :
    runCycles ps (s.withTrace tr) = .next (t.withTrace tr) := by
  induction ps generalizing s with
  | nil =>
    obtain rfl : s = t := Host.Outcome.next.inj h
    rfl
  | cons p ps ih =>
    obtain ⟨u, hcycle, hruns⟩ := runCycles_cons.mp h
    exact runCycles_cons.mpr ⟨u.withTrace tr, cycle_withTrace tr hcycle, ih hruns⟩

end Sys2Proof.Machine
end

section
/-! The dejitter property (70_reset_and_hazards.md R170): a line from ENTRY_BASE on, acknowledged at any phase of the window. -/

namespace Sys2Proof

theorem Config.entryBase_le_blankStart (c : Config) : c.entryBase ≤ c.blankStart := by
  unfold Config.blankStart Config.emitStart
  omega

/-- W is at most 255 (00_scope.md R12), so a jitter inside the window is a byte. -/
theorem Config.window_le {c : Config} (h : c.Admissible) : c.window ≤ 255 := by
  obtain ⟨-, -, -, -, -, -, -, -, -, -, -, -, -, hwindow, -⟩ := h
  exact hwindow

namespace Machine

/-- A pixel-bearing line waits for its acknowledge: the horizontal handler is requested and no body runs. -/
structure State.AwaitsEntry (s : State) : Prop where
  inv : s.Inv
  idle : s.seq = .idle
  vpend : s.vpend = false
  hpend : s.hpend = true
  line : s.lineCase = .emit
  clocked : ∃ ps, s.trace = .cycles ps

section Entry

variable {s : State} (hs : s.AwaitsEntry) (hclk : s.cfg.ClockedAdmissible)

include hs

theorem State.AwaitsEntry.run : s.run = true :=
  run_of_hpend hs.inv.stopped hs.hpend

/-- Before EMIT_START the output of a waiting line is that of its record, BLANK. -/
theorem State.AwaitsEntry.color (hphase : s.hcnt < s.cfg.emitStart) : s.color = s.lineRecord.colorAt s.hcnt := by
  rw [hs.inv.idleBlank hs.idle, lineRecord_colorAt_of_lt hphase]

include hclk

/-- A cycle without the acknowledge leaves the line waiting. -/
theorem cycle_quiet_of_awaitsEntry (hphase : s.hcnt < s.cfg.emitStart) :
    ∃ t, cycle quietPins s = .next t ∧ t.AwaitsEntry ∧ s.LineTo s t [s.portsOut quietPins] := by
  have hlt : s.hcnt + 1 < s.cfg.linePeriod := Nat.lt_of_le_of_lt hphase (Config.emitStart_lt_linePeriod hclk)
  have hentry : s.entered quietPins = none := rfl
  have hready : s.hReady quietPins = true := hReady_iff.mpr ⟨rfl, hs.idle, rfl⟩
  have hnop : s.accepted quietPins = some .nop := accepted_of_ready hready
  have hov : s.overridden quietPins = false := by simp [State.overridden, hnop]
  have hbody : (s.observePins quietPins).cycleBody quietPins = some (s.observePins quietPins) := by
    simp [State.cycleBody, hentry, hs.idle, hnop, State.performHost]
  refine ⟨_, cycle_eq_landTimers rfl hov hlt hbody, ?_, ?_⟩
  · exact
      { inv := inv_landTimers_idle quietPins hs.inv (inv_observePins quietPins hs.inv) hs.idle rfl rfl
        idle := hs.idle
        vpend := by simp [State.nextVpend, hs.vpend, vTick_eq_false hs.inv hclk hlt]
        hpend := by simp [State.nextHpend, hs.hpend, hentry]
        line := hs.line
        clocked := hs.clocked }
  · exact lineTo_landTimers hs.run hlt (hs.color hphase) rfl (agrees_observePins quietPins s)

/-- The acknowledge inside the window starts a body (R164). -/
theorem cycle_ack_of_awaitsEntry (hbase : s.cfg.entryBase ≤ s.hcnt)
    (hwindow : s.hcnt - s.cfg.entryBase < s.cfg.window) :
    ∃ t, cycle ackPins s = .next t ∧ t.Inv ∧ t.seq ≠ .idle ∧ s.LineTo s t [s.portsOut ackPins] := by
  have hphase : s.hcnt < s.cfg.emitStart := by unfold Config.emitStart; omega
  have hlt : s.hcnt + 1 < s.cfg.linePeriod := Nat.lt_of_le_of_lt hphase (Config.emitStart_lt_linePeriod hclk)
  have hentry : s.entered ackPins = some .horizontal := by
    simp [State.entered, ackPins, hs.idle, requested_horizontal.mpr ⟨hs.vpend, hs.hpend⟩]
  have hov : s.overridden ackPins = false := overridden_of_not_ready (by simp [State.hReady, ackPins])
  have hbody : (s.observePins ackPins).cycleBody ackPins =
      some ((s.observePins ackPins).waiting (alignDelay s.cfg (s.hcnt - s.cfg.entryBase))) := by
    simp [State.cycleBody, hentry, State.enterHorizontal, hs.line, hbase, hwindow, State.waiting]
  have hcycle := cycle_eq_landTimers rfl hov hlt hbody
  obtain ⟨ps, htrace⟩ := hs.clocked
  refine ⟨_, hcycle, inv_cycle hs.inv hclk htrace hcycle, nofun, ?_⟩
  exact lineTo_landTimers hs.run hlt (hs.color hphase) rfl ((agrees_waiting _ _).trans (agrees_observePins ackPins s))

end Entry

/-- The acknowledge may come any number of phases later, up to EMIT_START. -/
theorem runCycles_quiet_of_awaitsEntry (j : Nat) {s : State} (hs : s.AwaitsEntry) (hclk : s.cfg.ClockedAdmissible)
    (hphase : s.hcnt + j ≤ s.cfg.emitStart) :
    ∃ t outs, runCycles (List.replicate j quietPins) s = .next t ∧ t.AwaitsEntry ∧ s.LineTo s t outs ∧ outs.length = j := by
  induction j generalizing s with
  | zero => exact ⟨s, [], rfl, hs, .nil s, rfl⟩
  | succ j ih =>
    obtain ⟨u, hcycle, hu, hline⟩ := cycle_quiet_of_awaitsEntry hs hclk (by omega)
    have hcfg : u.cfg = s.cfg := cycle_cfg hcycle
    have hnext : u.hcnt = s.hcnt + 1 := hline.phase
    obtain ⟨t, outs, hruns, ht, hrest, houts⟩ := ih hu (hcfg ▸ hclk) (by rw [hcfg]; omega)
    exact ⟨t, s.portsOut quietPins :: outs, runCycles_cons.mpr ⟨u, hcycle, hruns⟩, ht,
      hline.append hrest hline.agrees, by rw [List.length_cons, houts]⟩

/-- A line acknowledged in the window ends at BLANK_START, whatever the phase of its entry: the quiet cycles before the
acknowledge, the acknowledge, and the body. -/
theorem runCycles_lineInputs {j : Nat} {s : State} (hs : s.AwaitsEntry) (hclk : s.cfg.ClockedAdmissible)
    (hbase : s.hcnt = s.cfg.entryBase) (hj : j < s.cfg.window) :
    ∃ t outs, runCycles (lineInputs s.cfg j) s = .next t ∧ t.seq = .idle ∧ s.LineTo s.finishLine t outs ∧
      outs.length = s.cfg.blankStart - s.cfg.entryBase := by
  have hwindow : s.cfg.entryBase + s.cfg.window < s.cfg.blankStart := Nat.lt_of_succ_le (Nat.le_add_right _ _)
  obtain ⟨u, before, hwaits, hu, hbefore, hlength⟩ :=
    runCycles_quiet_of_awaitsEntry j hs hclk (by unfold Config.emitStart; omega)
  have hcfgu : u.cfg = s.cfg := hbefore.agrees.cfg
  have hphaseu : u.hcnt = s.cfg.entryBase + j := by rw [hbefore.phase, hlength, hbase]
  obtain ⟨v, hack, hv, hbody, hentry⟩ :=
    cycle_ack_of_awaitsEntry hu (hcfgu ▸ hclk) (by rw [hcfgu]; omega) (by rw [hcfgu]; omega)
  have hcfgv : v.cfg = s.cfg := (cycle_cfg hack).trans hcfgu
  have hphasev : v.hcnt = s.cfg.entryBase + j + 1 := hphaseu ▸ hentry.phase
  obtain ⟨t, after, hruns, hidle, -, hafter, hrest, -⟩ :=
    runCycles_of_body (List.replicate (s.cfg.blankStart - s.cfg.entryBase - j - 1) quietPins) hv (hcfgv ▸ hclk) hbody
      (fun p hp => by rw [List.eq_of_mem_replicate hp]; rfl) (by rw [List.length_replicate, hcfgv]; omega)
  refine ⟨t, before ++ (u.portsOut ackPins :: after),
    runCycles_append.mpr ⟨u, hwaits, runCycles_cons.mpr ⟨v, hack, hruns⟩⟩, hidle, ?_, ?_⟩
  · have hline : u.LineTo u.finishLine t (u.portsOut ackPins :: after) :=
      hentry.append hafter hentry.agrees.finishLine
    exact hbefore.append hline hbefore.agrees.finishLine
  · rw [List.length_append, List.length_cons, hlength, hrest, List.length_replicate]
    omega

/-- Neither end of a line, nor what it shows, depends on the input still to come. -/
theorem lineTo_finishLine_of_withTrace {s t : State} {outs : List PinsOut} {tr : Trace} (tr' : Trace)
    (h : (s.withTrace tr).LineTo (s.withTrace tr).finishLine t outs) : s.LineTo s.finishLine (t.withTrace tr') outs :=
  ⟨⟨h.agrees.arch, h.agrees.records, h.agrees.returned⟩, h.phase, h.pins, h.colors⟩

/-- Settles O50: the line ends as `finishLine` with the colours of its record, and neither mentions the entry phase. -/
theorem dejitterHidesTheEntryPhase : Obligations.DejitterHidesTheEntryPhase := by
  intro s j hs hclk hrun hidle hvpend hhpend hpixels hbase hj
  have hwaits : (s.withTrace (.cycles [])).AwaitsEntry :=
    { inv := inv_setTrace _ hs (EventsAreAtomic_of_cycles rfl)
      idle := hidle
      vpend := hvpend
      hpend := hhpend
      line := hpixels
      clocked := ⟨[], rfl⟩ }
  obtain ⟨t, outs, hruns, hend, hclocked, hlength⟩ := runCycles_lineInputs (j := j) hwaits hclk hbase hj
  have hline := lineTo_finishLine_of_withTrace s.trace hclocked
  have houts : outs.length = s.cfg.blankStart - s.cfg.entryBase := hlength
  have hbyte : (BitVec.ofNat 8 j).toNat = j := by
    have hwindow := Config.window_le hs.admissible
    rw [BitVec.toNat_ofNat, Nat.mod_eq_of_lt (by omega)]
  have hexec : exec (.htick (BitVec.ofNat 8 j)) s = .next s.finishLine :=
    exec_htick_emit hrun hpixels (hbyte.symm ▸ hj)
  refine ⟨t.withTrace s.trace, s.finishLine,
    runCycles_withTrace (s := s.withTrace (.cycles [])) s.trace hruns, hexec, hline.agrees.arch, hline.agrees.records,
    ?_, hend, ?_⟩
  · rw [hline.phase, houts, hbase]
    exact Nat.add_sub_of_le (Config.entryBase_le_blankStart s.cfg)
  · rw [hline.pins_drop, hline.colors, houts, hbase]

end Machine

end Sys2Proof
end

section
/-! SUPPORT. Every meaning reads the architectural state only (10_state.md R15, R32): from two states that share it, whatever was
observed before, the same event leads to two states that share it and appends the same records and values. -/

namespace Sys2Proof.Machine

/-! ## The architectural state after each operation -/

theorem State.SameArch.symm {s t : State} (h : s.SameArch t) : t.SameArch s := by
  obtain ⟨hcfg, hvskip, haline, hrow, hrep, het, hrun, hfb⟩ := h
  exact ⟨hcfg.symm, hvskip.symm, haline.symm, hrow.symm, hrep.symm, het.symm, hrun.symm, hfb.symm⟩

theorem State.SameArch.run_eq {s t : State} (h : s.SameArch t) : s.run = t.run := by
  obtain ⟨-, -, -, -, -, -, hrun, -⟩ := h
  exact hrun

theorem State.SameArch.window_eq {s t : State} (h : s.SameArch t) : s.cfg.window = t.cfg.window := by
  obtain ⟨hcfg, -⟩ := h
  rw [hcfg]

theorem State.SameArch.et_eq {s t : State} (h : s.SameArch t) : s.et = t.et := by
  obtain ⟨-, -, -, -, -, het, -⟩ := h
  exact het

theorem State.SameArch.lineCase_eq {s t : State} (h : s.SameArch t) : s.lineCase = t.lineCase := by
  obtain ⟨hcfg, hvskip, -, hrow, -⟩ := h
  exact lineCase_congr hcfg hvskip hrow

theorem State.SameArch.lineRecord_eq {s t : State} (h : s.SameArch t) : s.lineRecord = t.lineRecord := by
  obtain ⟨hcfg, -, -, hrow, -, -, -, hfb⟩ := h
  exact lineRecord_congr hcfg hrow hfb

theorem State.SameArch.hostRead_eq {s t : State} (h : s.SameArch t) (a : Addr) : s.hostRead a = t.hostRead a := by
  obtain ⟨hcfg, -, -, -, -, -, -, hfb⟩ := h
  simp only [State.hostRead, hcfg, memRead_congr hfb]

theorem State.SameArch.vtickWrites {s t : State} (h : s.SameArch t) : s.vtickWrites.SameArch t.vtickWrites := by
  obtain ⟨hcfg, -, -, -, -, het, hrun, hfb⟩ := h
  simp [State.SameArch, hcfg, het, hrun, hfb]

theorem State.SameArch.skipLine {s t : State} (h : s.SameArch t) : s.skipLine.SameArch t.skipLine := by
  obtain ⟨hcfg, hvskip, haline, hrow, hrep, het, hrun, hfb⟩ := h
  simp [State.SameArch, hcfg, hvskip, haline, hrow, hrep, het, hrun, hfb]

theorem State.SameArch.finishLine {s t : State} (h : s.SameArch t) : s.finishLine.SameArch t.finishLine := by
  obtain ⟨hcfg, hvskip, haline, hrow, hrep, het, hrun, hfb⟩ := h
  simp [State.SameArch, hcfg, hvskip, haline, hrow, hrep, het, hrun, hfb]

theorem State.SameArch.hostWrite {s t : State} (h : s.SameArch t) (a : Addr) (d : Byte) :
    (s.hostWrite a d).SameArch (t.hostWrite a d) := by
  obtain ⟨hcfg, hvskip, haline, hrow, hrep, het, hrun, hfb⟩ := h
  simp [State.SameArch, hcfg, hvskip, haline, hrow, hrep, het, hrun, hfb]

theorem State.SameArch.startWrites {s t : State} (h : s.SameArch t) : s.startWrites.SameArch t.startWrites := by
  obtain ⟨hcfg, hvskip, haline, hrow, hrep, het, -, hfb⟩ := h
  exact ⟨hcfg, hvskip, haline, hrow, hrep, het, rfl, hfb⟩

theorem State.SameArch.stopWrites {s t : State} (h : s.SameArch t) : s.stopWrites.SameArch t.stopWrites := by
  obtain ⟨hcfg, hvskip, haline, hrow, hrep, het, -, hfb⟩ := h
  exact ⟨hcfg, hvskip, haline, hrow, hrep, het, rfl, hfb⟩

theorem State.SameArch.resetRegisters {s t : State} (h : s.SameArch t) :
    s.resetRegisters.SameArch t.resetRegisters := by
  obtain ⟨hcfg, -, -, -, -, -, -, hfb⟩ := h
  simp [State.SameArch, hcfg, hfb]

/-! ## Records one for one -/

/-- The same architectural state and returned values; the line records one for one in the relation `R`. -/
structure State.Follows (R : LineRecord → LineRecord → Prop) (s t : State) : Prop where
  arch : s.SameArch t
  records : List.Forall₂ R s.records t.records
  returned : s.returned = t.returned

theorem follows_eq_iff {s t : State} : s.Follows Eq t ↔ s.Agrees t := by
  have heq : List.Forall₂ Eq s.records t.records ↔ s.records = t.records := by rw [List.forall₂_eq_eq_eq]
  exact ⟨fun h => ⟨h.arch, heq.mp h.records, h.returned⟩, fun h => ⟨h.arch, heq.mpr h.records, h.returned⟩⟩

variable {R : LineRecord → LineRecord → Prop}

theorem State.Agrees.trans_follows {s t u : State} (h : s.Agrees t) (h' : t.Follows R u) : s.Follows R u :=
  ⟨h.arch.trans h'.arch, h.records ▸ h'.records, h.returned.trans h'.returned⟩

theorem forall₂_append_singleton {l l' : List LineRecord} {r r' : LineRecord} (h : List.Forall₂ R l l') (hr : R r r') :
    List.Forall₂ R (l ++ [r]) (l' ++ [r']) :=
  List.rel_append h (.cons hr .nil)

/-- An event from two such states leads to two such states. -/
theorem exec_follows {i : Instr} {s t s' : State} (hR : ∀ r, R r r) (h : s.Follows R t) (hexec : exec i s = .next s') :
    ∃ t', exec i t = .next t' ∧ s'.Follows R t' := by
  have hrun := h.arch.run_eq
  have hcase := h.arch.lineCase_eq
  rcases exec_next_cases hexec with ⟨rfl, rfl⟩ | ⟨rfl, harmed, rfl⟩ | ⟨j, rfl, harmed, hline⟩ | ⟨a, d, rfl, rfl⟩ |
    ⟨a, rfl, rfl⟩ | ⟨rfl, rfl⟩ | ⟨rfl, rfl⟩ | ⟨rfl, rfl⟩ | ⟨rfl, rfl⟩
  · exact ⟨t, rfl, h⟩
  · exact ⟨_, exec_vtick (hrun ▸ harmed), h.arch.vtickWrites, h.records, h.returned⟩
  · rcases hline with ⟨hskip, rfl⟩ | ⟨hidle, rfl⟩ | ⟨hemit, hj, rfl⟩
    · exact ⟨_, exec_htick_skip j (hrun ▸ harmed) (hcase ▸ hskip), h.arch.skipLine,
        forall₂_append_singleton h.records (hR _), h.returned⟩
    · exact ⟨_, exec_htick_idle j (hrun ▸ harmed) (hcase ▸ hidle), h.arch,
        forall₂_append_singleton h.records (hR _), h.returned⟩
    · exact ⟨_, exec_htick_emit (hrun ▸ harmed) (hcase ▸ hemit) (h.arch.window_eq ▸ hj), h.arch.finishLine,
        forall₂_append_singleton h.records (h.arch.lineRecord_eq ▸ hR _), h.returned⟩
  · exact ⟨t.hostWrite a d, rfl, h.arch.hostWrite a d, by simpa using h.records, by simpa using h.returned⟩
  · exact ⟨_, rfl, h.arch, h.records, by simp only [returnValue_returned, h.returned, h.arch.hostRead_eq]⟩
  · exact ⟨_, rfl, h.arch, h.records, by simp only [returnValue_returned, h.returned, h.arch.et_eq]⟩
  · exact ⟨_, rfl, h.arch.startWrites, h.records, h.returned⟩
  · exact ⟨_, rfl, h.arch.stopWrites, h.records, h.returned⟩
  · exact ⟨_, rfl, h.arch.resetRegisters, h.records, h.returned⟩

theorem runEvents_follows {es : List Instr} {s t s' : State} (hR : ∀ r, R r r) (h : s.Follows R t)
    (hruns : runEvents es s = .next s') : ∃ t', runEvents es t = .next t' ∧ s'.Follows R t' := by
  induction es generalizing s t with
  | nil =>
    obtain rfl : s = s' := Host.Outcome.next.inj hruns
    exact ⟨t, rfl, h⟩
  | cons e es ih =>
    obtain ⟨u, hexec, hrest⟩ := runEvents_cons.mp hruns
    obtain ⟨v, hexec', huv⟩ := exec_follows hR h hexec
    obtain ⟨t', hrest', ht'⟩ := ih huv hrest
    exact ⟨t', runEvents_cons.mpr ⟨v, hexec', hrest'⟩, ht'⟩

end Sys2Proof.Machine
end

section
/-! The lifecycle statements of the event level (42_lifecycle.md R100 to R104). -/

namespace Sys2Proof.Machine

/-- Settles O29: the meaning of START is its six writes. -/
theorem startArmsBothHandlers : Obligations.StartArmsBothHandlers := fun _ => rfl

/-- Settles O30: with RUN = 0 the sync lines are deasserted and both handler events refused. -/
theorem stopDisarmsBothHandlers : Obligations.StopDisarmsBothHandlers := by
  intro s
  obtain ⟨hhsync, hvsync⟩ := sync_of_stopped (stopWrites_run s)
  exact ⟨s.stopWrites, rfl, rfl, hhsync, hvsync, exec_vtick_disarmed (stopWrites_run s),
    fun j => exec_htick_disarmed j (stopWrites_run s)⟩

/-- Settles O32: `resetRegisters` writes registers only. -/
theorem resetKeepsWhatIsNoRegister : Obligations.ResetKeepsWhatIsNoRegister :=
  fun s => ⟨s.resetRegisters, rfl, resetRegisters_cfg s, resetRegisters_fb s, resetRegisters_records s,
    resetRegisters_returned s, resetRegisters_pins s, resetRegisters_draws s, resetRegisters_trace s⟩

end Sys2Proof.Machine
end

section
/-! A line cut short by a reset (42_lifecycle.md R104): its record has the samples begun, so up to the phase of the reset it shows
what the whole record shows. -/

namespace Sys2Proof.Machine

theorem cutOf_refl (r : LineRecord) : r.CutOf r := .inl rfl

/-- Only a whole record can be cut. -/
theorem cutOf_trans {r w v : LineRecord} (h : r.CutOf w) (h' : w.CutOf v) : r.CutOf v := by
  rcases h with rfl | ⟨start, cps, shown, rest, stop, rfl, rfl⟩
  · exact h'
  · rcases h' with rfl | ⟨_, _, _, _, _, hcut, -⟩
    · exact .inr ⟨start, cps, shown, rest, stop, rfl, rfl⟩
    · cases hcut

theorem cutOf_of_cutRecord {s : State} {r : LineRecord} (h : s.cutRecord = some r) : r.CutOf s.lineRecord := by
  obtain ⟨n, rfl, -⟩ := cutRecord_cases h
  exact .inr ⟨_, _, s.rowSamples.take n, s.rowSamples.drop n, _, rfl, by rw [List.take_append_drop]; rfl⟩

/-- A record without its last samples shows the same as long as none of those is due. -/
theorem sampleColorAt_take {start cps n phase : Nat} (samples : List Sample)
    (h : phase < start ∨ (phase - start) / cps < n) :
    sampleColorAt start cps (samples.take n) phase = sampleColorAt start cps samples phase := by
  unfold sampleColorAt
  split
  next => rfl
  next hlate => rw [List.getElem?_take_of_lt (h.resolve_left hlate)]

/-- Up to the line phase of a body only the samples begun have been due (R165, R166). -/
theorem sample_begun {s : State} {n phase : Nat} (hs : s.Inv)
    (hn : (s.seq = .align ∧ n = 0) ∨ (s.seq = .emit ∧ n = s.k + 1)) (h : phase ≤ s.hcnt) :
    phase < s.cfg.emitStart ∨ (phase - s.cfg.emitStart) / s.cfg.cps < n := by
  rcases hn with ⟨hseq, -⟩ | ⟨hseq, rfl⟩
  · obtain ⟨-, hphase, -⟩ := hs.align hseq
    exact .inl (by unfold Config.emitStart; omega)
  · obtain ⟨-, hph, hphase, -⟩ := hs.emit hseq
    refine .inr (Nat.div_lt_of_lt_mul ?_)
    rw [Nat.mul_add, Nat.mul_comm s.cfg.cps s.k]
    omega

theorem cutRecord_colorAt {s : State} {r : LineRecord} (hs : s.Inv) (h : s.cutRecord = some r) (phase : Nat) :
    r.colorAt phase = if phase ≤ s.hcnt then s.lineRecord.colorAt phase else blank := by
  obtain ⟨n, rfl, hn⟩ := cutRecord_cases h
  simp only [LineRecord.colorAt, State.lineRecord, Nat.lt_succ_iff]
  split
  next hshown => exact sampleColorAt_take _ (sample_begun hs hn hshown)
  next => rfl

/-- Settles O37: the reset cycle appends the record cut short, and the reset registers have SEQ = IDLE and COLOR = BLANK. -/
theorem abandonedLineIsCutShort : Obligations.AbandonedLineIsCutShort := by
  intro p s hs _ hrst hbody
  obtain ⟨r, hr⟩ := Option.ne_none_iff_exists'.mp (mt cutRecord_eq_none.mp hbody)
  obtain ⟨n, hcut, -⟩ := cutRecord_cases hr
  exact ⟨_, r, cycle_rst hrst, by simp [hr], rfl, rfl, cutOf_of_cutRecord hr, hcut ▸ nofun, cutRecord_colorAt hs hr⟩

end Sys2Proof.Machine
end

section
/-! SUPPORT. The events of one clock cycle without reset (70_reset_and_hazards.md R169): which event lands in it, which is
read off it, and that the cycle does what the event level answers to either. -/

namespace Sys2Proof.Machine

/-! ## What lands in a cycle and what is read off it, case by case (R161, steps 2 to 4) -/

section Events

variable {p : PinsIn} {s : State} (hrst : p.rst = false)

include hrst

theorem committed_vertical (hentry : s.entered p = some .vertical) : committed p s = [.vtick] := by
  simp [committed, hrst, hentry]

theorem committed_noPixels (hentry : s.entered p = some .horizontal) (hline : s.lineCase ≠ .emit) :
    committed p s = [.htick (recordedJitter s.cfg s.hcnt)] := by
  simp [committed, hrst, hentry, hline]

theorem committed_lineEntered (hentry : s.entered p = some .horizontal) (hline : s.lineCase = .emit) :
    committed p s = [] := by
  simp [committed, hrst, hentry, hline]

theorem committed_align (hseq : s.seq = .align) : committed p s = [] := by
  simp [committed, hrst, hseq, State.entered]

theorem committed_emit (hseq : s.seq = .emit) :
    committed p s =
      if ¬ s.ph < s.cfg.cps - 1 ∧ ¬ s.k < s.cfg.samplesPerLine - 1 then [.htick 0] else [] := by
  simp [committed, hrst, hseq, State.entered, State.lastEmitCycle]

theorem committed_host (hentry : s.entered p = none) (hseq : s.seq = .idle) :
    committed p s = (s.accepted p).toList := by
  simp [committed, hrst, hentry, hseq]

variable (prev : Bool)

theorem readOff_vertical (hentry : s.entered p = some .vertical) : readOff prev p s = some .vtick := by
  simp [readOff, hrst, hentry]

theorem readOff_horizontal (hentry : s.entered p = some .horizontal) :
    readOff prev p s = some (.htick (recordedJitter s.cfg s.hcnt)) := by
  simp [readOff, hrst, hentry]

theorem readOff_host (hentry : s.entered p = none) : readOff prev p s = s.accepted p := by
  simp [readOff, hrst, hentry]

theorem readOff_body (hbody : s.seq ≠ .idle) : readOff prev p s = none := by
  rw [readOff_host hrst prev (entered_of_not_idle hbody), accepted_of_not_idle hbody]

end Events

theorem runEvents_singleton {e : Instr} {s t : State} (h : exec e s = .next t) : runEvents [e] s = .next t :=
  runEvents_cons.mpr ⟨t, h, runEvents_nil t⟩

theorem run_of_vpend {s : State} (h : s.StoppedIsQuiet) (hpend : s.vpend = true) : s.run = true := by
  by_contra hrun
  obtain ⟨hv, -⟩ := h (by simpa using hrun)
  exact absurd (hpend.symm.trans hv) (by decide)

/-- At a phase of the window the recorded jitter is inside it: W is at most 255 (00_scope.md R12, 30_encoding.md R65). -/
theorem recordedJitter_lt_window {c : Config} {phase : Nat} (hadm : c.Admissible) (hbase : c.entryBase ≤ phase)
    (hwindow : phase - c.entryBase < c.window) : (recordedJitter c phase).toNat < c.window := by
  have hle := Config.window_le hadm
  rw [recordedJitter, if_pos ⟨hbase, by omega⟩, BitVec.toNat_ofNat, Nat.mod_eq_of_lt (by omega)]
  exact hwindow

/-! ## The state of the event level -/

/-- The state of the event level at a cycle: there an entered line is done at once (00_scope.md R3). -/
def State.settled (s : State) : State := if s.seq = .idle then s else s.finishLine

theorem settled_of_idle {s : State} (h : s.seq = .idle) : s.settled = s := if_pos h

theorem settled_of_body {s : State} (h : s.seq ≠ .idle) : s.settled = s.finishLine := if_neg h

theorem settled_agrees {s t : State} (h : s.Agrees t) (hseq : s.seq = t.seq) : s.settled.Agrees t.settled := by
  by_cases hidle : s.seq = .idle
  · rwa [settled_of_idle hidle, settled_of_idle (hseq ▸ hidle)]
  · rw [settled_of_body hidle, settled_of_body (hseq ▸ hidle)]
    exact h.finishLine

/-- Going from `s` to `t` has the effect of the events that land in the cycle, and, at the event level, of the event read
off it. -/
structure State.PerformsEvents (prev : Bool) (p : PinsIn) (s t : State) : Prop where
  landed : ∃ u, runEvents (committed p s) s = .next u ∧ t.Agrees u
  read : ∃ u, runEvents (readOff prev p s).toList s.settled = .next u ∧ t.settled.Agrees u

section Performs

variable {prev : Bool} {p : PinsIn} {s b : State}

/-- With the sequencer idle before and after, one and the same event is read off and lands. -/
theorem performsEvents_atOnce {es : List Instr} (hidle : s.seq = .idle) (hend : b.seq = .idle)
    (hcommitted : committed p s = es) (hread : (readOff prev p s).toList = es) (hruns : runEvents es s = .next b) :
    State.PerformsEvents prev p s b where
  landed := ⟨b, hcommitted ▸ hruns, .refl b⟩
  read := ⟨b, by rw [hread, settled_of_idle hidle, hruns], by rw [settled_of_idle hend]; exact .refl b⟩

/-- While a body goes on nothing is read off and nothing lands. -/
theorem performsEvents_bodyGoesOn (hrst : p.rst = false) (hbody : s.seq ≠ .idle) (hgoes : b.seq ≠ .idle)
    (hcommitted : committed p s = []) (hagrees : b.Agrees s) : State.PerformsEvents prev p s b where
  landed := ⟨s, by rw [hcommitted, runEvents_nil], hagrees⟩
  read := by
    refine ⟨s.finishLine, by rw [readOff_body hrst prev hbody, settled_of_body hbody]; rfl, ?_⟩
    rw [settled_of_body hgoes]
    exact hagrees.finishLine

/-- At the end of a body its HTICK lands, for the same result as at the jitter 0 (R167, R88). -/
theorem performsEvents_bodyEnds (hs : s.Inv) (hrst : p.rst = false) (hbody : s.seq ≠ .idle)
    (hcommitted : committed p s = [.htick 0]) : State.PerformsEvents prev p s s.finishLine where
  landed := by
    have hexec : exec (.htick 0) s = .next s.finishLine :=
      exec_htick_emit (run_of_body hs.stopped hbody) (hs.pixelBearing hbody) (Config.window_pos hs.admissible)
    exact ⟨_, hcommitted ▸ runEvents_singleton hexec, .refl _⟩
  read := by
    refine ⟨s.finishLine, by rw [readOff_body hrst prev hbody, settled_of_body hbody]; rfl, ?_⟩
    rw [settled_of_idle (finishLine_seq s)]
    exact .refl _

theorem performsEvents_verticalEntry (hs : s.Inv) (hrst : p.rst = false) (hentry : s.entered p = some .vertical) :
    State.PerformsEvents prev p s s.vtickWrites := by
  obtain ⟨-, hidle, hrequest⟩ := entered_some hentry
  have hrun := run_of_vpend hs.stopped (requested_vertical.mp hrequest)
  exact performsEvents_atOnce hidle hidle (committed_vertical hrst hentry)
    (by rw [readOff_vertical hrst prev hentry]; rfl) (runEvents_singleton (exec_vtick hrun))

/-- The entry of a skip or idle line is its HTICK; that of a pixel-bearing line starts a body, at whose end the HTICK lands. -/
theorem performsEvents_horizontalEntry (hs : s.Inv) (hrst : p.rst = false) (hentry : s.entered p = some .horizontal)
    (hb : s.enterHorizontal = some b) : State.PerformsEvents prev p s b := by
  obtain ⟨-, hidle, hrequest⟩ := entered_some hentry
  have hrun := run_of_hpend hs.stopped (requested_horizontal.mp hrequest).2
  have hread : (readOff prev p s).toList = [.htick (recordedJitter s.cfg s.hcnt)] := by
    rw [readOff_horizontal hrst prev hentry]
    rfl
  rcases enterHorizontal_cases hb with ⟨hline, rfl⟩ | ⟨hline, rfl⟩ | ⟨hline, hbase, hwindow, rfl⟩
  · exact performsEvents_atOnce hidle hidle (committed_noPixels hrst hentry (by rw [hline]; decide)) hread
      (runEvents_singleton (exec_htick_skip _ hrun hline))
  · exact performsEvents_atOnce hidle hidle (committed_noPixels hrst hentry (by rw [hline]; decide)) hread
      (runEvents_singleton (exec_htick_idle _ hrun hline))
  · have hagrees := agrees_waiting s (alignDelay s.cfg (s.hcnt - s.cfg.entryBase))
    have hjitter := recordedJitter_lt_window hs.admissible hbase hwindow
    refine ⟨⟨s, by rw [committed_lineEntered hrst hentry hline, runEvents_nil], hagrees⟩, s.finishLine, ?_, ?_⟩
    · rw [hread, settled_of_idle hidle]
      exact runEvents_singleton (exec_htick_emit hrun hline hjitter)
    · exact hagrees.finishLine

theorem performsEvents_alignStep (hrst : p.rst = false) (hseq : s.seq = .align) :
    State.PerformsEvents prev p s s.alignStep := by
  have hbody : s.seq ≠ .idle := by rw [hseq]; decide
  have hcommitted := committed_align hrst hseq
  by_cases hd : s.dly = 0
  · rw [alignStep_eq_showing hd]
    exact performsEvents_bodyGoesOn hrst hbody nofun hcommitted (agrees_showing s _ _)
  · rw [alignStep_eq_waiting hseq hd]
    exact performsEvents_bodyGoesOn hrst hbody nofun hcommitted (agrees_waiting s _)

theorem performsEvents_emitStep (hs : s.Inv) (hrst : p.rst = false) (hseq : s.seq = .emit) :
    State.PerformsEvents prev p s s.emitStep := by
  have hbody : s.seq ≠ .idle := by rw [hseq]; decide
  have hcommitted := committed_emit hrst hseq
  rcases emitStep_cases hseq hs.emit with ⟨hhold, hstep⟩ | ⟨-, hmore, hstep⟩ | ⟨hph, hk, hstep⟩
  · rw [hstep]
    exact performsEvents_bodyGoesOn hrst hbody nofun (by rw [hcommitted, if_neg (by omega)]) (agrees_showing s _ _)
  · rw [hstep]
    exact performsEvents_bodyGoesOn hrst hbody nofun (by rw [hcommitted, if_neg (by omega)]) (agrees_showing s _ _)
  · rw [hstep]
    exact performsEvents_bodyEnds hs hrst hbody (by rw [hcommitted, if_pos (by omega)])

theorem performsEvents_cycleBody (hs : s.Inv) (hrst : p.rst = false) (hb : s.cycleBody p = some b) :
    State.PerformsEvents prev p s b := by
  rcases cycleBody_cases hb with ⟨hentry, rfl⟩ | ⟨hentry, hbody⟩ | ⟨-, hseq, rfl⟩ | ⟨-, hseq, rfl⟩ |
    ⟨hentry, hseq, hacc, rfl⟩ | ⟨hentry, hseq, hacc, rfl⟩
  · exact performsEvents_verticalEntry hs hrst hentry
  · exact performsEvents_horizontalEntry hs hrst hentry hbody
  · exact performsEvents_alignStep hrst hseq
  · exact performsEvents_emitStep hs hrst hseq
  · exact performsEvents_atOnce hseq ((performHost_hostCommand_seq p s).trans hseq)
      ((committed_host hrst hentry hseq).trans (congrArg _ hacc)) (congrArg _ ((readOff_host hrst prev hentry).trans hacc))
      (runEvents_singleton (exec_hostCommand p s))
  · exact performsEvents_atOnce hseq hseq ((committed_host hrst hentry hseq).trans (congrArg _ hacc))
      (congrArg _ ((readOff_host hrst prev hentry).trans hacc)) (runEvents_nil _)

/-- Observing the outputs and landing the timers change nothing the event level speaks of. -/
theorem performsEvents_cycle {t : State} (hs : s.Inv) (hrst : p.rst = false) (h : cycle p s = .next t) :
    State.PerformsEvents prev p s t := by
  have hobs := agrees_observePins p s
  rcases cycle_next_cases h with ⟨hreset, -⟩ | ⟨-, b, hbody, hland⟩
  · rw [hrst] at hreset
    cases hreset
  have hb : State.PerformsEvents prev p (s.observePins p) b := performsEvents_cycleBody (inv_observePins p hs) hrst hbody
  have ht : t.Agrees b ∧ t.seq = b.seq := by
    rcases hland with ⟨-, rfl⟩ | ⟨-, -, rfl⟩
    · exact ⟨.refl _, rfl⟩
    · exact ⟨⟨⟨rfl, rfl, rfl, rfl, rfl, rfl, rfl, rfl⟩, rfl, rfl⟩, rfl⟩
  obtain ⟨hagrees, hseq⟩ := ht
  obtain ⟨⟨u, hruns, hu⟩, v, hreads, hv⟩ := hb
  obtain ⟨u', hruns', hu'⟩ := runEvents_follows (fun _ => rfl) (follows_eq_iff.mpr hobs) hruns
  obtain ⟨v', hreads', hv'⟩ := runEvents_follows (fun _ => rfl) (follows_eq_iff.mpr (settled_agrees hobs rfl)) hreads
  exact ⟨⟨u', hruns', (hagrees.trans hu).trans (follows_eq_iff.mp hu')⟩, v', hreads',
    ((settled_agrees hagrees hseq).trans hv).trans (follows_eq_iff.mp hv')⟩

end Performs

end Sys2Proof.Machine
end

section
/-! The clocked realisation against its events (70_reset_and_hazards.md R169): one cycle, and a whole run. -/

namespace Sys2Proof.Machine

/-! ## A cycle with reset (42_lifecycle.md R104) -/

/-- Such a cycle leaves the reset registers, whatever was in progress; the records get the line it cuts short. -/
theorem reset_of_cycle_rst {p : PinsIn} {s t : State} (hrst : p.rst = true) (h : cycle p s = .next t) :
    t.SameArch s.resetRegisters ∧ t.seq = .idle ∧ t.records = s.records ++ s.cutRecord.toList ∧
      t.returned = s.returned := by
  rw [cycle_rst hrst] at h
  obtain rfl := Host.Outcome.next.inj h
  exact ⟨⟨rfl, rfl, rfl, rfl, rfl, rfl, rfl, rfl⟩, rfl, rfl, rfl⟩

/-- Settles O51: a reset is the event RESET and the record cut short; without one the event that lands is the cycle. -/
theorem cycleCommitsItsEvents : Obligations.CycleCommitsItsEvents := by
  intro p s t hs _ h
  by_cases hrst : p.rst = true
  case pos =>
    obtain ⟨harch, -, hrecords, hreturned⟩ := reset_of_cycle_rst hrst h
    have hcommitted : committed p s = [.reset] := if_pos hrst
    rw [if_pos hrst, hcommitted]
    exact ⟨s.resetRegisters, rfl, harch, hreturned, hrecords⟩
  case neg =>
    obtain ⟨u, hruns, hu⟩ := (performsEvents_cycle (prev := false) hs (by simpa using hrst) h).landed
    exact ⟨u, hruns, hu.arch, hu.returned, by rw [if_neg hrst, List.append_nil, hu.records]⟩

/-! ## A run (R169) -/

/-- After a cycle of a reset another one changes nothing the event level speaks of, so it is no further event. -/
def State.IsReset (s : State) : Prop := s.seq = .idle ∧ s.SameArch s.resetRegisters

theorem isReset_of_cycle_rst {p : PinsIn} {s t : State} (hrst : p.rst = true) (h : cycle p s = .next t) : t.IsReset := by
  obtain ⟨harch, hidle, -⟩ := reset_of_cycle_rst hrst h
  exact ⟨hidle, harch.trans harch.symm.resetRegisters⟩

theorem settled_resetRegisters_sameArch (s : State) : s.settled.resetRegisters.SameArch s.resetRegisters := by
  unfold State.settled
  split <;> exact ⟨rfl, rfl, rfl, rfl, rfl, rfl, rfl, rfl⟩

theorem settled_returned (s : State) : s.settled.returned = s.returned := by
  unfold State.settled
  split <;> rfl

theorem settled_records (s : State) :
    s.settled.records = s.records ++ if s.seq = .idle then [] else [s.lineRecord] := by
  unfold State.settled
  split <;> simp

theorem cycle_trace {p : PinsIn} {s t : State} (h : cycle p s = .next t) : t.trace = s.trace := by
  have hsame : cycle p s = .next (t.withTrace s.trace) := cycle_withTrace s.trace h
  have hout : t = t.withTrace s.trace := Host.Outcome.next.inj (h.symm.trans hsame)
  rw [hout]
  rfl

theorem readOffRun_cons {p : PinsIn} {ps : List PinsIn} {s t : State} (prev : Bool) (h : cycle p s = .next t) :
    readOffRun prev (p :: ps) s = (readOff prev p s).toList ++ readOffRun p.rst ps t := by
  simp only [readOffRun, h]

/-- The events read off do not depend on the input still to come. -/
theorem readOffRun_withTrace {ps : List PinsIn} {s t : State} (prev : Bool) (tr : Trace) (h : runCycles ps s = .next t) :
    readOffRun prev ps (s.withTrace tr) = readOffRun prev ps s := by
  induction ps generalizing prev s with
  | nil => rfl
  | cons p ps ih =>
    obtain ⟨u, hcycle, hruns⟩ := runCycles_cons.mp h
    rw [readOffRun_cons prev hcycle, readOffRun_cons prev (cycle_withTrace tr hcycle), ih p.rst hruns]
    rfl

section Run

variable {R : LineRecord → LineRecord → Prop} (hR : ∀ r, R r r)

theorem forall₂_snoc_of_left {l l' : List LineRecord} {w r : LineRecord} (h : List.Forall₂ R (l ++ [w]) l')
    (hw : ∀ v, R w v → R r v) : List.Forall₂ R (l ++ [r]) l' := by
  induction l generalizing l' with
  | nil =>
    obtain ⟨v, l'', hv, hnil, rfl⟩ := List.forall₂_cons_left_iff.mp h
    exact .cons (hw v hv) hnil
  | cons x l ih =>
    obtain ⟨v, l'', hv, hrest, rfl⟩ := List.forall₂_cons_left_iff.mp h
    exact .cons hv (ih hrest)

/-- With the line in progress cut short the records still are those of the event level, one for one. -/
theorem cut_records_follow {s u : State} (hcut : ∀ r w v, r.CutOf w → R w v → R r v)
    (h : List.Forall₂ R s.settled.records u.records) :
    List.Forall₂ R (s.records ++ s.cutRecord.toList) u.records := by
  rw [settled_records] at h
  cases hr : s.cutRecord with
  | none =>
    rwa [if_pos (cutRecord_eq_none.mp hr)] at h
  | some r =>
    have hbody : s.seq ≠ .idle := fun hidle => by simp [cutRecord_eq_none.mpr hidle] at hr
    rw [if_neg hbody] at h
    exact forall₂_snoc_of_left h fun v => hcut r _ v (cutOf_of_cutRecord hr)

/-- The first cycle of a reset is the event RESET, the next ones are no event. -/
theorem cycle_rst_follows {prev : Bool} {p : PinsIn} {s t u : State} (hrst : p.rst = true)
    (hprev : prev = true → s.IsReset) (hcut : ∀ r w v, r.CutOf w → R w v → R r v) (h : cycle p s = .next t)
    (hu : s.settled.Follows R u) :
    ∃ v, runEvents (readOff prev p s).toList u = .next v ∧ t.settled.Follows R v := by
  obtain ⟨harch, hidle, hrecords, hreturned⟩ := reset_of_cycle_rst hrst h
  have hrecords' := hrecords ▸ cut_records_follow hcut hu.records
  have hreturned' := (hreturned.trans (settled_returned s).symm).trans hu.returned
  rw [settled_of_idle hidle]
  cases prev with
  | false =>
    have hread : readOff false p s = some .reset := by simp [readOff, hrst]
    rw [hread]
    refine ⟨u.resetRegisters, rfl, ?_, hrecords', hreturned'⟩
    exact (harch.trans (settled_resetRegisters_sameArch s).symm).trans hu.arch.resetRegisters
  | true =>
    obtain ⟨hs, hreset⟩ := hprev rfl
    have hread : readOff true p s = none := by simp [readOff, hrst]
    rw [hread]
    rw [settled_of_idle hs] at hu
    exact ⟨u, rfl, (harch.trans hreset.symm).trans hu.arch, hrecords', hreturned'⟩

include hR

/-- One cycle of a run beside the event read off it. -/
theorem cycle_follows {prev : Bool} {p : PinsIn} {s t u : State} (hs : s.Inv) (hprev : prev = true → s.IsReset)
    (hcut : p.rst = true → ∀ r w v, r.CutOf w → R w v → R r v) (h : cycle p s = .next t) (hu : s.settled.Follows R u) :
    ∃ v, runEvents (readOff prev p s).toList u = .next v ∧ t.settled.Follows R v := by
  by_cases hrst : p.rst = true
  case pos => exact cycle_rst_follows hrst hprev (hcut hrst) h hu
  case neg =>
    obtain ⟨w, hruns, hw⟩ := (performsEvents_cycle (prev := prev) hs (by simpa using hrst) h).read
    obtain ⟨v, hruns', hv⟩ := runEvents_follows hR hu hruns
    exact ⟨v, hruns', hw.trans_follows hv⟩

/-- A clocked run beside the events read off it, by induction on the run: at every cycle the event level is where the clocked
state leads once the line in progress is done. -/
theorem runCycles_follows (ps : List PinsIn) {prev : Bool} {s t u : State} {qs : List PinsIn} (hs : s.Inv)
    (hclk : s.cfg.ClockedAdmissible) (htrace : s.trace = .cycles qs) (hprev : prev = true → s.IsReset)
    (hcut : ∀ p ∈ ps, p.rst = true → ∀ r w v, r.CutOf w → R w v → R r v) (h : runCycles ps s = .next t)
    (hu : s.settled.Follows R u) :
    ∃ v, runEvents (readOffRun prev ps s) u = .next v ∧ t.settled.Follows R v := by
  induction ps generalizing prev s u with
  | nil =>
    obtain rfl : s = t := Host.Outcome.next.inj h
    exact ⟨u, rfl, hu⟩
  | cons p ps ih =>
    obtain ⟨hcutp, hcutps⟩ := List.forall_mem_cons.mp hcut
    obtain ⟨s', hcycle, hruns⟩ := runCycles_cons.mp h
    obtain ⟨u', hevents, hu'⟩ := cycle_follows hR hs hprev hcutp hcycle hu
    obtain ⟨v, hrest, hv⟩ := ih (inv_cycle hs hclk htrace hcycle) (cycle_cfg hcycle ▸ hclk)
      ((cycle_trace hcycle).trans htrace) (fun hrst => isReset_of_cycle_rst hrst hcycle) hcutps hruns hu'
    rw [readOffRun_cons prev hcycle]
    exact ⟨v, runEvents_append.mpr ⟨u', hevents, hrest⟩, hv⟩

/-- From an idle cycle to an idle cycle, whatever input the state itself still has to come. -/
theorem runCycles_follows_of_idle {ps : List PinsIn} {s t : State} (hs : s.Inv) (hclk : s.cfg.ClockedAdmissible)
    (hidle : s.seq = .idle) (h : runCycles ps s = .next t) (hend : t.seq = .idle)
    (hcut : ∀ p ∈ ps, p.rst = true → ∀ r w v, r.CutOf w → R w v → R r v) :
    ∃ v, runEvents (readOffRun false ps s) s = .next v ∧ t.Follows R v := by
  have hself : (s.withTrace (.cycles [])).settled.Follows R s := by
    rw [settled_of_idle (s := s.withTrace (.cycles [])) hidle]
    exact ⟨⟨rfl, rfl, rfl, rfl, rfl, rfl, rfl, rfl⟩, List.forall₂_same.mpr fun r _ => hR r, rfl⟩
  obtain ⟨v, hevents, hv⟩ := runCycles_follows hR ps (inv_setTrace _ hs (EventsAreAtomic_of_cycles rfl)) hclk rfl
    (prev := false) nofun hcut (runCycles_withTrace (.cycles []) h) hself
  rw [settled_of_idle (s := t.withTrace (.cycles [])) hend] at hv
  exact ⟨v, readOffRun_withTrace false (.cycles []) h ▸ hevents, hv.arch, hv.records, hv.returned⟩

end Run

/-- Settles O52: the records follow those of the event run as cut short or whole; without a reset there is nothing to cut,
and they follow those of the same event run as equal. -/
theorem clockedRunRefinesItsEvents : Obligations.ClockedRunRefinesItsEvents := by
  intro ps s t hs hclk hidle h hend
  obtain ⟨u, hevents, hu⟩ :=
    runCycles_follows_of_idle cutOf_refl hs hclk hidle h hend fun _ _ _ _ _ _ => cutOf_trans
  refine ⟨u, hevents, hu.arch, hu.returned, hu.records, fun hrst => ?_⟩
  obtain ⟨v, hevents', hv⟩ := runCycles_follows_of_idle (R := Eq) (fun _ => rfl) hs hclk hidle h hend
    fun p hp hreset => by
      rw [hrst p hp] at hreset
      cases hreset
  obtain rfl : u = v := Host.Outcome.next.inj (hevents.symm.trans hevents')
  exact (follows_eq_iff.mp hv).records

end Sys2Proof.Machine
end

section
/-! The statements about single host events (43_host_access.md R107 to R110). -/

namespace Sys2Proof.Machine

theorem exec_nop (s : State) : exec .nop s = .next s := rfl

theorem exec_fbwr (a : Addr) (d : Byte) (s : State) : exec (.fbwr a d) s = .next (s.hostWrite a d) := rfl

theorem exec_fbrd (a : Addr) (s : State) : exec (.fbrd a) s = .next (s.returnValue (.byte (s.hostRead a))) := rfl

theorem exec_rdet (s : State) : exec .rdet s = .next (s.returnValue (.elapsed s.et)) := rfl

theorem hostWrite_of_fbSize_le {s : State} {a : Addr} (d : Byte) (h : s.cfg.fbSize ≤ a.toNat) : s.hostWrite a d = s :=
  if_neg (Nat.not_lt.mpr h)

/-- Settles O22: the result is `hostWrite`, which writes the framebuffer only, and there one byte below FB_SIZE. -/
theorem fbwrStoresOneByte : Obligations.FbwrStoresOneByte := by
  refine ⟨fun s a d ha => ⟨s.hostWrite a d, exec_fbwr a d s, hostWrite_frame s a d, ?stored, fun b hb => ?kept⟩,
    fun s a d ha => ?outside⟩
  case stored => rw [memRead_hostWrite, if_pos ⟨rfl, ha⟩]
  case kept => rw [memRead_hostWrite, if_neg fun ⟨hab, _⟩ => hb hab.symm]
  case outside => rw [exec_fbwr, hostWrite_of_fbSize_le d ha]

/-- Settles O21: `execNop` hands its state on. -/
theorem nopChangesNothing : Obligations.NopChangesNothing := exec_nop

/-- Settles O23: `hostRead` is the choice between the byte and 0x00. -/
theorem fbrdReturnsOneByte : Obligations.FbrdReturnsOneByte := by
  intro s a
  rw [exec_fbrd, State.hostRead, State.returnValue]

/-- Settles O24: the reading does not look at RUN. -/
theorem rdetReturnsElapsedCounter : Obligations.RdetReturnsElapsedCounter := exec_rdet

end Sys2Proof.Machine
end

section
/-! SUPPORT. Where a pixel lies (20_memory.md R42): its byte is below FB_SIZE and in reach of the A operand, and no two pixels in
bounds share both byte and position. -/

namespace Sys2Proof.Machine

theorem pixelPos_lt (x : Nat) : pixelPos x < 4 := Nat.mod_lt x (by decide)

theorem column_lt_bytesPerRow {c : Config} {x : Nat} (hx : x < c.width) : x / 4 < c.bytesPerRow :=
  Nat.div_lt_of_lt_mul hx

theorem pixelAddr_lt_fbSize {c : Config} {x y : Nat} (hx : x < c.width) (hy : y < c.height) :
    pixelAddr c x y < c.fbSize :=
  rowAddr_lt_fbSize hy (column_lt_bytesPerRow hx)

/-- The row and the byte within the row are the quotient and the remainder of the address by BYTES_PER_ROW. -/
theorem pixelAddr_inj {c : Config} {x y x' y' : Nat} (hx : x < c.width) (hx' : x' < c.width) :
    pixelAddr c x' y' = pixelAddr c x y ↔ x' / 4 = x / 4 ∧ y' = y := by
  constructor
  case mp =>
    intro h
    have hcol := column_lt_bytesPerRow hx
    have hcol' := column_lt_bytesPerRow hx'
    have hpos : 0 < c.bytesPerRow := Nat.zero_lt_of_lt hcol
    have hrow := congrArg (· / c.bytesPerRow) h
    have hbyte := congrArg (· % c.bytesPerRow) h
    simp only [pixelAddr, Nat.mul_comm _ c.bytesPerRow, Nat.mul_add_div hpos, Nat.div_eq_of_lt, hcol, hcol',
      Nat.add_zero] at hrow
    simp only [pixelAddr, Nat.mul_add_mod_self_right, Nat.mod_eq_of_lt, hcol, hcol'] at hbyte
    exact ⟨hbyte, hrow⟩
  case mpr =>
    rintro ⟨hcol, rfl⟩
    rw [pixelAddr, hcol, pixelAddr]

/-- A pixel in bounds is given by its byte and its position in the byte. -/
theorem pixel_eq_iff {c : Config} {x y x' y' : Nat} (hx : x < c.width) (hx' : x' < c.width) :
    (x' = x ∧ y' = y) ↔ pixelAddr c x' y' = pixelAddr c x y ∧ pixelPos x' = pixelPos x := by
  rw [pixelAddr_inj hx hx', pixelPos, pixelPos]
  omega

/-- An address below FB_SIZE is what the host's 16-bit operand holds (30_encoding.md R64, 00_scope.md R12). -/
theorem toNat_addr_of_lt_fbSize {c : Config} (hadm : c.Admissible) {a : Nat} (ha : a < c.fbSize) :
    (BitVec.ofNat 16 a : Addr).toNat = a := by
  rw [BitVec.toNat_ofNat, Nat.mod_eq_of_lt (ha.trans_le (Config.fbSize_le_65536 hadm))]

theorem hostRead_ofNat {s : State} (hadm : s.cfg.Admissible) {a : Nat} (ha : a < s.cfg.fbSize) :
    s.hostRead (BitVec.ofNat 16 a) = s.memRead a := by
  rw [State.hostRead, toNat_addr_of_lt_fbSize hadm ha, if_pos ha]

theorem memRead_hostWrite_ofNat {s : State} (hadm : s.cfg.Admissible) {a : Nat} (ha : a < s.cfg.fbSize) (d : Byte)
    (b : Nat) : (s.hostWrite (BitVec.ofNat 16 a) d).memRead b = if a = b then d else s.memRead b := by
  simp only [memRead_hostWrite, toNat_addr_of_lt_fbSize hadm ha, ha, and_true]

end Sys2Proof.Machine
end

section
/-! SUPPORT. Runs of host programs (43_host_access.md R112): one rule per event of a program, then the same rules with only handler
events between, which keep the configuration and the framebuffer (20_memory.md R47). -/

namespace Sys2Proof.Machine

/-! ## One event of a program -/

/-- A host event that always steps, after the handler events that fall before it. -/
theorem runEvents_append_singleton {e : Instr} {f : State → State} (he : ∀ u, exec e u = .next (f u)) {es : List Instr}
    {s t : State} : runEvents (es ++ [e]) s = .next t ↔ ∃ u, runEvents es s = .next u ∧ f u = t := by
  simp only [runEvents_append, runEvents_cons, runEvents_nil, he, Host.Outcome.next.injEq, exists_eq_left']

theorem HostProg.run_done {n : Nat} {gaps : List (List Instr)} {s : State} {r : State × Nat} :
    (HostProg.done n).run gaps s = .next r ↔ (s, n) = r := by
  rw [HostProg.run, Host.Outcome.next.injEq]

/-- `FBWR a, d` in a program: its gap, then the store. -/
theorem HostProg.run_fbwr {a : Addr} {d : Byte} {next : HostProg} {gaps : List (List Instr)} {s : State}
    {r : State × Nat} :
    (HostProg.fbwr a d next).run gaps s = .next r ↔
      ∃ u, runEvents (gaps.headD []) s = .next u ∧ next.run gaps.tail (u.hostWrite a d) = .next r := by
  have hafter : (HostProg.fbwr a d next).run gaps s = .next r ↔
      ∃ t, runEvents (gaps.headD [] ++ [.fbwr a d]) s = .next t ∧ next.run gaps.tail t = .next r := by
    rw [HostProg.run]
    cases runEvents (gaps.headD [] ++ [.fbwr a d]) s <;> simp
  rw [hafter]
  simp only [runEvents_append_singleton (exec_fbwr a d), exists_exists_and_eq_and]

/-- `FBRD a` in a program: its gap, then the read, whose byte the rest of the program goes on with. -/
theorem HostProg.run_fbrd {a : Addr} {next : Byte → HostProg} {gaps : List (List Instr)} {s : State} {r : State × Nat} :
    (HostProg.fbrd a next).run gaps s = .next r ↔
      ∃ u, runEvents (gaps.headD []) s = .next u ∧
        (next (u.hostRead a)).run gaps.tail (u.returnValue (.byte (u.hostRead a))) = .next r := by
  have hafter : (HostProg.fbrd a next).run gaps s = .next r ↔
      ∃ t, runEvents (gaps.headD [] ++ [.fbrd a]) s = .next t ∧ (next (t.hostRead a)).run gaps.tail t = .next r := by
    rw [HostProg.run]
    cases runEvents (gaps.headD [] ++ [.fbrd a]) s <;> simp
  rw [hafter]
  simp only [runEvents_append_singleton (exec_fbrd a), exists_exists_and_eq_and]
  rfl

/-- `RDET` in a program: its gap, then the reading of ET. -/
theorem HostProg.run_rdet {next : Nat → HostProg} {gaps : List (List Instr)} {s : State} {r : State × Nat} :
    (HostProg.rdet next).run gaps s = .next r ↔
      ∃ u, runEvents (gaps.headD []) s = .next u ∧
        (next u.et).run gaps.tail (u.returnValue (.elapsed u.et)) = .next r := by
  have hafter : (HostProg.rdet next).run gaps s = .next r ↔
      ∃ t, runEvents (gaps.headD [] ++ [.rdet]) s = .next t ∧ (next t.et).run gaps.tail t = .next r := by
    rw [HostProg.run]
    cases runEvents (gaps.headD [] ++ [.rdet]) s <;> simp
  rw [hafter]
  simp only [runEvents_append_singleton exec_rdet, exists_exists_and_eq_and, returnValue_et]

/-! ## Handler events between (R111, R121) -/

theorem ne_fbwr_of_handlerOf {e : Instr} (he : handlerOf e ≠ none) (a : Addr) (d : Byte) : e ≠ .fbwr a d := by
  rintro rfl
  exact he rfl

theorem runEvents_cfg_fb_of_handlers {es : List Instr} {s t : State} (hes : ∀ e ∈ es, handlerOf e ≠ none)
    (h : runEvents es s = .next t) : t.cfg = s.cfg ∧ t.fb = s.fb := by
  induction es generalizing s with
  | nil =>
    obtain rfl : s = t := Host.Outcome.next.inj h
    exact ⟨rfl, rfl⟩
  | cons e es ih =>
    obtain ⟨he, hrest⟩ := List.forall_mem_cons.mp hes
    obtain ⟨u, hexec, hruns⟩ := runEvents_cons.mp h
    obtain ⟨hcfg, hfb⟩ := ih hrest hruns
    exact ⟨hcfg.trans (exec_cfg hexec), hfb.trans (exec_fb hexec (ne_fbwr_of_handlerOf he))⟩

/-- Only handler events fall between the events of the program. -/
def OnlyHandlers (gaps : List (List Instr)) : Prop := ∀ g ∈ gaps, ∀ e ∈ g, handlerOf e ≠ none

theorem OnlyHandlers.headD {gaps : List (List Instr)} (h : OnlyHandlers gaps) :
    ∀ e ∈ gaps.headD [], handlerOf e ≠ none := by
  cases gaps with
  | nil => exact List.forall_mem_nil _
  | cons g gaps => exact h g List.mem_cons_self

theorem OnlyHandlers.tail {gaps : List (List Instr)} (h : OnlyHandlers gaps) : OnlyHandlers gaps.tail :=
  fun g hg => h g (List.mem_of_mem_tail hg)

/-- The rest of the program goes on from the byte stored and every other byte as it was. -/
theorem HostProg.run_fbwr_handlers {a : Nat} {d : Byte} {next : HostProg} {gaps : List (List Instr)} {s : State}
    {r : State × Nat} (hadm : s.cfg.Admissible) (hgaps : OnlyHandlers gaps) (ha : a < s.cfg.fbSize)
    (h : (HostProg.fbwr (BitVec.ofNat 16 a) d next).run gaps s = .next r) :
    ∃ u, u.cfg = s.cfg ∧ (∀ b, u.memRead b = if a = b then d else s.memRead b) ∧
      next.run gaps.tail u = .next r := by
  obtain ⟨w, hgap, hnext⟩ := HostProg.run_fbwr.mp h
  obtain ⟨hcfg, hfb⟩ := runEvents_cfg_fb_of_handlers hgaps.headD hgap
  refine ⟨_, (hostWrite_cfg w _ d).trans hcfg, fun b => ?_, hnext⟩
  rw [← hcfg] at hadm ha
  rw [memRead_hostWrite_ofNat hadm ha, memRead_congr hfb]

/-- The rest of the program goes on from the byte read and every byte as it was. -/
theorem HostProg.run_fbrd_handlers {a : Nat} {next : Byte → HostProg} {gaps : List (List Instr)} {s : State}
    {r : State × Nat} (hadm : s.cfg.Admissible) (hgaps : OnlyHandlers gaps) (ha : a < s.cfg.fbSize)
    (h : (HostProg.fbrd (BitVec.ofNat 16 a) next).run gaps s = .next r) :
    ∃ u, u.cfg = s.cfg ∧ (∀ b, u.memRead b = s.memRead b) ∧ (next (s.memRead a)).run gaps.tail u = .next r := by
  obtain ⟨w, hgap, hnext⟩ := HostProg.run_fbrd.mp h
  obtain ⟨hcfg, hfb⟩ := runEvents_cfg_fb_of_handlers hgaps.headD hgap
  have hbyte : w.hostRead (BitVec.ofNat 16 a) = s.memRead a := by
    rw [← hcfg] at hadm ha
    rw [hostRead_ofNat hadm ha, memRead_congr hfb]
  rw [hbyte] at hnext
  exact ⟨_, (returnValue_cfg w _).trans hcfg, memRead_congr ((returnValue_fb w _).trans hfb), hnext⟩

end Sys2Proof.Machine
end

section
/-! The statements about the pseudo-operations (43_host_access.md R113 to R121). -/

namespace Sys2Proof.Machine

/-! ## SETPIXEL and GETPIXEL (R113, R114, R118) -/

theorem setPixel_inBounds {c : Config} {x y col : Nat} (h : pixelInBounds c x y col) :
    setPixel c x y col =
      .fbrd (BitVec.ofNat 16 (pixelAddr c x y)) fun v =>
        .fbwr (BitVec.ofNat 16 (pixelAddr c x y)) (setSample v (pixelPos x) (BitVec.ofNat 2 col)) (.done 0) :=
  if_pos h

theorem setPixel_outOfBounds {c : Config} {x y col : Nat} (h : ¬ pixelInBounds c x y col) :
    setPixel c x y col = .done 0 :=
  if_neg h

theorem getPixel_inBounds {c : Config} {x y : Nat} (hx : x < c.width) (hy : y < c.height) :
    getPixel c x y = .fbrd (BitVec.ofNat 16 (pixelAddr c x y)) fun v => .done (sample v (pixelPos x)).toNat :=
  if_pos ⟨hx, hy, Nat.zero_le 3⟩

theorem getPixel_outOfBounds {c : Config} {x y : Nat} (h : ¬ (x < c.width ∧ y < c.height)) :
    getPixel c x y = .done 0 :=
  if_neg fun ⟨hx, hy, _⟩ => h ⟨hx, hy⟩

/-- SETPIXEL changes the one byte that holds the pixel, and in it the pixel's field. -/
theorem setPixel_memRead {s t : State} {x y col v : Nat} {gaps : List (List Instr)} (hadm : s.cfg.Admissible)
    (hin : pixelInBounds s.cfg x y col) (hgaps : OnlyHandlers gaps)
    (h : (setPixel s.cfg x y col).run gaps s = .next (t, v)) :
    t.cfg = s.cfg ∧ ∀ b, t.memRead b =
      if pixelAddr s.cfg x y = b then setSample (s.memRead b) (pixelPos x) (BitVec.ofNat 2 col) else s.memRead b := by
  have ⟨hx, hy, _⟩ := hin
  have haddr : pixelAddr s.cfg x y < s.cfg.fbSize := pixelAddr_lt_fbSize hx hy
  rw [setPixel_inBounds hin] at h
  obtain ⟨u, hucfg, hread, hrest⟩ := HostProg.run_fbrd_handlers hadm hgaps haddr h
  rw [← hucfg] at hadm
  obtain ⟨w, hwcfg, hwrite, hdone⟩ := HostProg.run_fbwr_handlers hadm hgaps.tail (hucfg ▸ haddr) hrest
  obtain ⟨rfl, -⟩ := Prod.mk.inj (HostProg.run_done.mp hdone)
  refine ⟨hwcfg.trans hucfg, fun b => ?_⟩
  by_cases hb : pixelAddr s.cfg x y = b
  case pos => rw [hwrite, if_pos hb, if_pos hb, hb]
  case neg => rw [hwrite, if_neg hb, if_neg hb, hread]

/-- Settles O55: a pixel in the same byte at another position, and a pixel in another byte, are both as before. -/
theorem setPixelReadsBack : Obligations.SetPixelReadsBack := by
  intro s t x y col v gaps hadm hin hgaps h x' y' hx' hy'
  have ⟨hx, _, _⟩ := hin
  obtain ⟨hcfg, hbytes⟩ := setPixel_memRead hadm hin hgaps h
  simp only [State.pixelAt, hcfg, hbytes, pixel_eq_iff hx hx']
  by_cases haddr : pixelAddr s.cfg x' y' = pixelAddr s.cfg x y
  case pos => simp only [haddr, if_true, true_and, sample_setSample _ (pixelPos_lt x) (pixelPos_lt x')]
  case neg => simp only [haddr, Ne.symm haddr, if_false, false_and]

/-- Settles O58: with empty gaps every event of the program steps. -/
theorem pixelOperationsComplete : Obligations.PixelOperationsComplete := by
  refine ⟨fun s x y col hin => ?set, fun s x y hadm hx hy => ?get, fun s x y col hout => ?setOut,
    fun s x y hout => ?getOut⟩
  case set =>
    rw [setPixel_inBounds hin]
    exact ⟨_, HostProg.run_fbrd.mpr ⟨s, runEvents_nil s,
      HostProg.run_fbwr.mpr ⟨_, runEvents_nil _, HostProg.run_done.mpr rfl⟩⟩⟩
  case get =>
    rw [getPixel_inBounds hx hy, State.pixelAt, ← hostRead_ofNat hadm (pixelAddr_lt_fbSize hx hy)]
    exact ⟨_, HostProg.run_fbrd.mpr ⟨s, runEvents_nil s, HostProg.run_done.mpr rfl⟩⟩
  case setOut => rw [setPixel_outOfBounds hout, HostProg.run_done]
  case getOut => rw [getPixel_outOfBounds hout, HostProg.run_done]

/-! ## CLEAR and COPY (R115, R116) -/

theorem writeBytesThen_cons (a : Nat) (b : Byte) (bytes : List Byte) (next : HostProg) :
    writeBytesThen a (b :: bytes) next = .fbwr (BitVec.ofNat 16 a) b (writeBytesThen (a + 1) bytes next) := rfl

theorem writeBytesThen_completes (bytes : List Byte) (a n : Nat) (s : State) :
    ∃ t, (writeBytesThen a bytes (.done n)).run [] s = .next (t, n) := by
  induction bytes generalizing a s with
  | nil => exact ⟨s, HostProg.run_done.mpr rfl⟩
  | cons b bytes ih =>
    obtain ⟨t, ht⟩ := ih (a + 1) (s.hostWrite (BitVec.ofNat 16 a) b)
    exact ⟨t, HostProg.run_fbwr.mpr ⟨s, runEvents_nil s, ht⟩⟩

/-- Bytes written in ascending order from `a` on stand there afterwards, and the bytes below `a` are as before. -/
theorem writeBytesThen_memRead {bytes : List Byte} {a n v : Nat} {gaps : List (List Instr)} {s t : State}
    (hadm : s.cfg.Admissible) (hgaps : OnlyHandlers gaps) (hfit : a + bytes.length ≤ s.cfg.fbSize)
    (h : (writeBytesThen a bytes (.done n)).run gaps s = .next (t, v)) :
    t.cfg = s.cfg ∧ (∀ b < a, t.memRead b = s.memRead b) ∧ ∀ i d, bytes[i]? = some d → t.memRead (a + i) = d := by
  induction bytes generalizing a gaps s with
  | nil =>
    obtain ⟨rfl, -⟩ := Prod.mk.inj (HostProg.run_done.mp h)
    exact ⟨rfl, fun _ _ => rfl, nofun⟩
  | cons b bytes ih =>
    rw [List.length_cons] at hfit
    rw [writeBytesThen_cons] at h
    obtain ⟨u, hucfg, hwrite, hrest⟩ := HostProg.run_fbwr_handlers hadm hgaps (by omega) h
    rw [← hucfg] at hadm hfit
    obtain ⟨hcfg, hbelow, hstored⟩ := ih hadm hgaps.tail (by omega) hrest
    refine ⟨hcfg.trans hucfg, fun c hc => ?below, fun i d hi => ?stored⟩
    case below => rw [hbelow c (Nat.lt_succ_of_lt hc), hwrite, if_neg (Nat.ne_of_gt hc)]
    case stored =>
      cases i with
      | zero =>
        obtain rfl : b = d := Option.some.inj hi
        rw [Nat.add_zero, hbelow a (Nat.lt_succ_self a), hwrite, if_pos rfl]
      | succ i => rw [← hstored i d hi, Nat.add_right_comm, Nat.add_assoc]

/-- A program that writes FB_SIZE bytes from address 0 on leaves every pixel in bounds the sample of its byte. -/
theorem writeScreen_pixelAt {s t : State} {bytes : List Byte} {x y n v : Nat} {gaps : List (List Instr)}
    (hadm : s.cfg.Admissible) (hlen : bytes.length = s.cfg.fbSize) (hgaps : OnlyHandlers gaps)
    (h : (writeBytesThen 0 bytes (.done n)).run gaps s = .next (t, v)) (hx : x < s.cfg.width) (hy : y < s.cfg.height) :
    ∃ b, bytes[pixelAddr s.cfg x y]? = some b ∧ t.pixelAt x y = sample b (pixelPos x) := by
  obtain ⟨hcfg, -, hstored⟩ := writeBytesThen_memRead hadm hgaps (by rw [hlen, Nat.zero_add]) h
  have haddr : pixelAddr s.cfg x y < bytes.length := hlen ▸ pixelAddr_lt_fbSize hx hy
  have hbyte := List.getElem?_eq_getElem haddr
  refine ⟨_, hbyte, ?_⟩
  rw [State.pixelAt, hcfg, ← hstored _ _ hbyte, Nat.zero_add]

/-- Settles O57: COPY writes the source from address 0 on, byte for byte. -/
theorem copyReadsBack : Obligations.CopyReadsBack :=
  ⟨fun _ _ _ _ _ hadm hlen hgaps h _ _ hx hy => writeScreen_pixelAt hadm hlen hgaps h hx hy,
    fun s src => writeBytesThen_completes src 0 0 s⟩

/-- Settles O56: CLEAR is a COPY of one byte throughout, which has the colour in all four fields. -/
theorem clearReadsBack : Obligations.ClearReadsBack := by
  refine ⟨fun s t col v gaps hadm hgaps h x y hx hy => ?reads, fun s col => writeBytesThen_completes _ 0 0 s⟩
  obtain ⟨b, hb, hpixel⟩ := writeScreen_pixelAt hadm List.length_replicate hgaps h hx hy
  obtain rfl : b = fillByte col := List.eq_of_mem_replicate (List.mem_of_getElem? hb)
  rw [hpixel, sample_fillByte col (pixelPos_lt x)]

/-! ## Elapsed time (R119) -/

/-- Settles O59: both programs are one RDET, whose value they scale. -/
theorem elapsedReadingsScale : Obligations.ElapsedReadingsScale := fun s _ =>
  ⟨_, _, HostProg.run_rdet.mpr ⟨s, runEvents_nil s, HostProg.run_done.mpr rfl⟩,
    HostProg.run_rdet.mpr ⟨s, runEvents_nil s, HostProg.run_done.mpr rfl⟩⟩

end Sys2Proof.Machine
end

section
/-! SUPPORT. A cycle that neither reset nor an accepted START or STOP overrides (70_reset_and_hazards.md R161): its body, and
after it the timers and the flags. -/

namespace Sys2Proof.Machine

/-! ## What no body writes: RUN and the observed outputs -/

@[simp] theorem alignStep_run (s : State) : s.alignStep.run = s.run := by
  unfold State.alignStep; split <;> rfl

@[simp] theorem alignStep_pins (s : State) : s.alignStep.pins = s.pins := by
  unfold State.alignStep; split <;> rfl

@[simp] theorem nextSample_run (s : State) : s.nextSample.run = s.run := by
  unfold State.nextSample; split <;> rfl

@[simp] theorem nextSample_pins (s : State) : s.nextSample.pins = s.pins := by
  unfold State.nextSample; split <;> rfl

@[simp] theorem emitStep_run (s : State) : s.emitStep.run = s.run := by
  unfold State.emitStep; split <;> [rfl; split <;> simp]

@[simp] theorem emitStep_pins (s : State) : s.emitStep.pins = s.pins := by
  unfold State.emitStep; split <;> [rfl; split <;> simp]

@[simp] theorem performHost_hostCommand_pins (p : PinsIn) (s : State) :
    (s.performHost (hostCommand p)).pins = s.pins := by
  rcases hostCommand_cases p with h | h | h | h | h | h <;> simp [h, State.performHost]

theorem enterHorizontal_run_pins {s b : State} (h : s.enterHorizontal = some b) : b.run = s.run ∧ b.pins = s.pins := by
  rcases enterHorizontal_cases h with ⟨-, rfl⟩ | ⟨-, rfl⟩ | ⟨-, -, -, rfl⟩ <;> exact ⟨rfl, rfl⟩

theorem overridden_of_command {p : PinsIn} (s : State) (hstart : hostCommand p ≠ .start) (hstop : hostCommand p ≠ .stop) :
    s.overridden p = false := by
  rw [Bool.eq_false_iff]
  intro hov
  obtain ⟨-, hcommand⟩ := overridden_iff.mp hov
  exact hcommand.elim hstart hstop

theorem command_of_not_overridden {p : PinsIn} {s : State} (hov : s.overridden p = false) (hready : s.hReady p = true) :
    hostCommand p ≠ .start ∧ hostCommand p ≠ .stop := by
  rw [← not_or]
  exact fun hcommand => Bool.eq_false_iff.mp hov (overridden_iff.mpr ⟨hready, hcommand⟩)

/-- RUN has no writer in such a cycle: START and STOP are the only ones but RESET (10_state.md R23). -/
theorem cycleBody_run_pins {p : PinsIn} {s b : State} (hov : s.overridden p = false) (h : s.cycleBody p = some b) :
    b.run = s.run ∧ b.pins = s.pins := by
  rcases cycleBody_cases h with ⟨-, rfl⟩ | ⟨-, hentry⟩ | ⟨-, -, rfl⟩ | ⟨-, -, rfl⟩ | ⟨-, -, hacc, rfl⟩ | ⟨-, -, -, rfl⟩
  · exact ⟨rfl, rfl⟩
  · exact enterHorizontal_run_pins hentry
  · exact ⟨alignStep_run s, alignStep_pins s⟩
  · exact ⟨emitStep_run s, emitStep_pins s⟩
  · obtain ⟨hready, -⟩ := accepted_some hacc
    obtain ⟨hstart, hstop⟩ := command_of_not_overridden hov hready
    exact ⟨performHost_hostCommand_run s hstart hstop, performHost_hostCommand_pins p s⟩
  · exact ⟨rfl, rfl⟩

/-! ## When a cycle completes and when it faults -/

/-- Only an entry into a pixel-bearing line outside the window leaves a cycle without a body. -/
theorem cycleBody_eq_none {p : PinsIn} {s : State} :
    s.cycleBody p = none ↔ s.entered p = some .horizontal ∧ s.enterHorizontal = none := by
  unfold State.cycleBody
  split
  next hentry => simp [hentry]
  next hentry => simp [hentry]
  next hentry =>
    simp only [hentry, reduceCtorEq, false_and, iff_false]
    split <;> [skip; skip; split] <;> simp

/-- Observing the outputs writes nothing a horizontal entry looks at. -/
theorem enterHorizontal_observePins_none {p : PinsIn} {s : State} :
    (s.observePins p).enterHorizontal = none ↔ s.enterHorizontal = none := by
  simp only [enterHorizontal_none, lineCase_observePins, observePins_cfg, observePins_hcnt]

theorem cycle_of_body_none {p : PinsIn} {s : State} (hrst : p.rst = false) (hb : (s.observePins p).cycleBody p = none) :
    cycle p s = .fault (.timingViolation .jitter) := by
  simp [cycle, hrst, hb]

theorem cycle_of_lostTick {p : PinsIn} {s b : State} (hrst : p.rst = false) (hov : s.overridden p = false)
    (hlost : s.lostTick p = true) (hb : (s.observePins p).cycleBody p = some b) :
    cycle p s = .fault (.timingViolation .lostTick) := by
  simp [cycle, hrst, hb, hov, hlost]

/-- An accepted START or STOP is the whole cycle (R161 (6)). -/
theorem cycle_of_overridden {p : PinsIn} {s b : State} (hrst : p.rst = false) (hov : s.overridden p = true)
    (hb : (s.observePins p).cycleBody p = some b) : cycle p s = .next b := by
  simp [cycle, hrst, hb, hov]

theorem cycle_of_body_some {p : PinsIn} {s b : State} (hrst : p.rst = false) (hov : s.overridden p = false)
    (hlost : s.lostTick p = false) (hb : (s.observePins p).cycleBody p = some b) :
    cycle p s = .next (State.landTimers p s b) := by
  simp [cycle, hrst, hb, hov, hlost]

theorem cycleBody_observePins_isSome {p : PinsIn} {s : State}
    (hline : s.entered p = some .horizontal → s.enterHorizontal ≠ none) :
    ∃ b, (s.observePins p).cycleBody p = some b := by
  rw [← Option.ne_none_iff_exists']
  intro hb
  obtain ⟨hentry, hnone⟩ := cycleBody_eq_none.mp hb
  exact hline hentry (enterHorizontal_observePins_none.mp hnone)

/-- What such a cycle leaves: RUN as it was, the outputs observed, the timers and the flags of R161 (1) and (5). -/
structure State.TimersLanded (p : PinsIn) (s t : State) : Prop where
  cfg : t.cfg = s.cfg
  run : t.run = s.run
  pins : t.pins = s.pins ++ [s.portsOut p]
  hcnt : t.hcnt = s.nextHcnt
  vcnt : t.vcnt = s.nextVcnt
  vpend : t.vpend = s.nextVpend p
  hpend : t.hpend = s.nextHpend p

theorem timersLanded_landTimers {p : PinsIn} {s b : State} (hov : s.overridden p = false)
    (hb : (s.observePins p).cycleBody p = some b) : s.TimersLanded p (State.landTimers p s b) := by
  have hcfg : b.cfg = s.cfg := cycleBody_cfg (s := s.observePins p) hb
  obtain ⟨hrun, hpins⟩ := cycleBody_run_pins (s := s.observePins p) hov hb
  exact ⟨hcfg, hrun, hpins, rfl, rfl, rfl, rfl⟩

theorem timersLanded_of_cycle {p : PinsIn} {s t : State} (hrst : p.rst = false) (hov : s.overridden p = false)
    (h : cycle p s = .next t) : s.lostTick p = false ∧ s.TimersLanded p t := by
  rcases cycle_next_cases h with ⟨hreset, -⟩ | ⟨-, b, hb, ⟨hov', -⟩ | ⟨-, hlost, rfl⟩⟩
  · exact absurd (hrst.symm.trans hreset) (by decide)
  · exact absurd (hov.symm.trans hov') (by decide)
  · exact ⟨hlost, timersLanded_landTimers hov hb⟩

theorem cycle_completes {p : PinsIn} {s : State} (hrst : p.rst = false) (hov : s.overridden p = false)
    (hlost : s.lostTick p = false) (hline : s.entered p = some .horizontal → s.enterHorizontal ≠ none) :
    ∃ t, cycle p s = .next t ∧ s.TimersLanded p t := by
  obtain ⟨b, hb⟩ := cycleBody_observePins_isSome hline
  exact ⟨_, cycle_of_body_some hrst hov hlost hb, timersLanded_landTimers hov hb⟩

/-! ## Ticks and flags -/

theorem hTick_iff {s : State} : s.hTick = true ↔ s.run = true ∧ s.hcnt = s.cfg.linePeriod - 1 := by
  simp [State.hTick]

theorem vTick_iff {s : State} : s.vTick = true ↔ s.run = true ∧ s.vcnt = s.cfg.framePeriod - 1 := by
  simp [State.vTick]

theorem nextVpend_iff {p : PinsIn} {s : State} :
    s.nextVpend p = true ↔ s.vTick = true ∨ (s.vpend = true ∧ s.entered p ≠ some .vertical) := by
  simp [State.nextVpend, or_comm]

theorem nextHpend_iff {p : PinsIn} {s : State} :
    s.nextHpend p = true ↔ s.hTick = true ∨ (s.hpend = true ∧ s.entered p ≠ some .horizontal) := by
  simp [State.nextHpend, or_comm]

theorem lostTick_iff {p : PinsIn} {s : State} :
    s.lostTick p = true ↔ s.hTick = true ∧ s.hpend = true ∧ s.entered p ≠ some .horizontal := by
  simp [State.lostTick, and_assoc]

theorem nextHcnt_of_run {s : State} (h : s.run = true) :
    s.nextHcnt = if s.hcnt = s.cfg.linePeriod - 1 then 0 else s.hcnt + 1 := by
  simp [State.nextHcnt, h]

theorem nextVcnt_of_run {s : State} (h : s.run = true) :
    s.nextVcnt = if s.vcnt = s.cfg.framePeriod - 1 then 0 else s.vcnt + 1 := by
  simp [State.nextVcnt, h]

theorem nextHcnt_of_stopped {s : State} (h : s.run = false) : s.nextHcnt = s.hcnt := by
  simp [State.nextHcnt, h]

theorem nextVcnt_of_stopped {s : State} (h : s.run = false) : s.nextVcnt = s.vcnt := by
  simp [State.nextVcnt, h]

/-- The two channels tick together at the end of a frame (R141). -/
theorem hTick_of_vTick {s : State} (hclk : s.cfg.ClockedAdmissible) (h : s.TimersInStep) (hv : s.vTick = true) :
    s.hTick = true := by
  obtain ⟨-, -, hstep⟩ := h
  obtain ⟨hrun, hlast⟩ := vTick_iff.mp hv
  exact hTick_iff.mpr ⟨hrun, by rw [← hstep, hlast, framePeriod_pred_mod hclk]⟩

/-! ## Entries (R129, R130, R162) -/

theorem entered_of_ack {p : PinsIn} {s : State} (hack : p.iack = true) (hidle : s.seq = .idle) :
    s.entered p = s.requested := by
  simp [State.entered, hack, hidle]

/-- With VPEND set the handler entered is not the horizontal one (R130). -/
theorem entered_ne_horizontal {p : PinsIn} {s : State} (hv : s.vpend = true) : s.entered p ≠ some .horizontal := by
  intro hentry
  obtain ⟨-, -, hrequest⟩ := entered_some hentry
  obtain ⟨hclear, -⟩ := requested_horizontal.mp hrequest
  exact absurd (hv.symm.trans hclear) (by decide)

theorem overridden_of_ack {p : PinsIn} (s : State) (hack : p.iack = true) : s.overridden p = false :=
  overridden_of_not_ready (by simp [State.hReady, hack])

theorem cycleBody_vertical {p : PinsIn} {s : State} (hentry : s.entered p = some .vertical) :
    s.cycleBody p = some s.vtickWrites := by
  simp [State.cycleBody, hentry]

theorem cycleBody_horizontal {p : PinsIn} {s : State} (hentry : s.entered p = some .horizontal) :
    s.cycleBody p = s.enterHorizontal := by
  simp [State.cycleBody, hentry]

theorem enterHorizontal_skip {s : State} (hline : s.lineCase = .skip) : s.enterHorizontal = some s.skipLine := by
  simp [State.enterHorizontal, hline]

theorem enterHorizontal_idle {s : State} (hline : s.lineCase = .idle) : s.enterHorizontal = some s.idleLine := by
  simp [State.enterHorizontal, hline]

theorem enterHorizontal_emit {s : State} {j : Nat} (hline : s.lineCase = .emit) (hphase : s.hcnt = s.cfg.entryBase + j)
    (hwindow : j < s.cfg.window) : s.enterHorizontal = some (s.waiting (alignDelay s.cfg j)) := by
  simp [State.enterHorizontal, hline, hphase, hwindow, State.waiting]

end Sys2Proof.Machine
end

section
/-! The statements about one cycle (60_exceptions.md R127 to R132, R139 to R144, 70_reset_and_hazards.md R161 to R164). -/

namespace Sys2Proof.Machine

/-- Settles O40: the flags and timers are those `TimersLanded` says, once the cycle is known to complete. -/
theorem ticksSetTheirPendingFlags : Obligations.TicksSetTheirPendingFlags := by
  intro p s hrst hov hlost hwindow
  have hline : s.entered p = some .horizontal → s.enterHorizontal ≠ none := fun hentry hnone => by
    obtain ⟨hemit, houtside⟩ := enterHorizontal_none.mp hnone
    have := hwindow hentry hemit
    omega
  obtain ⟨t, hcycle, ht⟩ := cycle_completes hrst hov hlost hline
  refine ⟨t, hcycle, ht.run, ht.pins, ?_, ?_, fun hrun => ⟨?_, ?_⟩, fun hstop => ⟨?_, ?_⟩⟩
  · rw [ht.vpend, nextVpend_iff, vTick_iff]
  · rw [ht.hpend, nextHpend_iff, hTick_iff]
  · rw [ht.hcnt, nextHcnt_of_run hrun]
  · rw [ht.vcnt, nextVcnt_of_run hrun]
  · rw [ht.hcnt, nextHcnt_of_stopped hstop]
  · rw [ht.vcnt, nextVcnt_of_stopped hstop]

/-- Settles O43: the lost tick is tested only after the body, which an entry alone can lack; with VPEND set no horizontal entry
is made, so nothing stands in the way of the cycle. -/
theorem onlyALostHorizontalTickFaults : Obligations.OnlyALostHorizontalTickFaults := by
  refine ⟨fun p s hrst htick hpend hentry hov => ?_, fun p s hrst htick hpend hlost hov => ?_⟩
  · obtain ⟨b, hb⟩ := cycleBody_observePins_isSome (p := p) (s := s) fun h => absurd h hentry
    exact cycle_of_lostTick hrst hov (lostTick_iff.mpr ⟨htick, hpend, hentry⟩) hb
  · obtain ⟨t, hcycle, ht⟩ := cycle_completes hrst hov hlost fun hentry => absurd hentry (entered_ne_horizontal hpend)
    exact ⟨t, hcycle, ht.vpend.trans (nextVpend_iff.mpr (.inl htick))⟩

/-- Settles O41: the request is the vertical one, HPEND set or not. -/
theorem verticalEntryComesFirst : Obligations.VerticalEntryComesFirst := by
  intro p s hrst hack hidle hpend hlost
  have hentry : s.entered p = some .vertical := (entered_of_ack hack hidle).trans (requested_vertical.mpr hpend)
  have hv : s.nextVpend p = s.vTick := by simp [State.nextVpend, hentry]
  have hother : (some Handler.vertical != some .horizontal) = true := rfl
  have hh : s.nextHpend p = (s.hpend || s.hTick) := by rw [State.nextHpend, hentry, hother, Bool.and_true]
  refine ⟨_, cycle_of_body_some hrst (overridden_of_ack s hack) hlost
    (cycleBody_vertical (s := s.observePins p) hentry), ?_⟩
  rw [State.landTimers, hv, hh]
  rfl

/-- Settles O42: the three cases of the line, and the fault where `enterHorizontal` has no state. -/
theorem horizontalEntryChoosesTheCase : Obligations.HorizontalEntryChoosesTheCase := by
  intro p s hrst hack hidle hclear hpend
  have hentry : s.entered p = some .horizontal :=
    (entered_of_ack hack hidle).trans (requested_horizontal.mpr ⟨hclear, hpend⟩)
  have hv : s.nextVpend p = s.vTick := by simp [State.nextVpend, hclear]
  have hh : s.nextHpend p = s.hTick := by simp [State.nextHpend, hentry]
  have hlost : s.lostTick p = false := by simp [State.lostTick, hentry]
  have hbody : (s.observePins p).cycleBody p = (s.observePins p).enterHorizontal := cycleBody_horizontal hentry
  have hcycle : ∀ b, (s.observePins p).enterHorizontal = some b → cycle p s = .next (State.landTimers p s b) :=
    fun b hb => cycle_of_body_some hrst (overridden_of_ack s hack) hlost (hbody.trans hb)
  refine ⟨fun hskip => ?skip, fun hvskip hrow => ?idle, fun hvskip hrow j hphase hwindow => ?emit,
    fun hvskip hrow houtside => ?fault⟩
  case skip =>
    refine ⟨_, hcycle _ (enterHorizontal_skip (lineCase_skip.mpr hskip)), hh, ?_⟩
    rw [State.landTimers, hv]
    rfl
  case idle =>
    refine ⟨_, hcycle _ (enterHorizontal_idle (lineCase_idle.mpr ⟨hvskip, hrow⟩)), hh, ?_⟩
    rw [State.landTimers, hv]
    rfl
  case emit =>
    refine ⟨_, hcycle _ (enterHorizontal_emit (lineCase_emit.mpr ⟨hvskip, hrow⟩) hphase hwindow), hh, ?_⟩
    rw [State.landTimers, hv]
    rfl
  case fault =>
    have hnone : s.enterHorizontal = none :=
      enterHorizontal_none.mpr ⟨lineCase_emit.mpr ⟨hvskip, hrow⟩, by omega⟩
    exact cycle_of_body_none hrst (hbody.trans (enterHorizontal_observePins_none.mpr hnone))

/-- A line driven at its polarity exactly under a condition. -/
theorem level_eq_polarity_iff (c : Prop) [Decidable c] (pol : Bool) : (if c then pol else !pol) = pol ↔ c := by
  split <;> simp_all

/-- Settles O45: both ports show the sync lines, each at its polarity or the complement of it. -/
theorem syncPulsesOpenTheirPeriods : Obligations.SyncPulsesOpenTheirPeriods :=
  fun _ s => ⟨level_eq_polarity_iff (s.run = true ∧ s.hcnt < s.cfg.hsyncWidth) s.cfg.hsyncPol,
    level_eq_polarity_iff (s.run = true ∧ s.vcnt < s.cfg.vsyncWidth) s.cfg.vsyncPol⟩

/-- Settles O47: the counters are in step in every state of the invariant. -/
theorem verticalTicksAreHorizontalTicks : Obligations.VerticalTicksAreHorizontalTicks :=
  fun _ hs hclk hv => hTick_of_vTick hclk (hs.timers hclk) hv

end Sys2Proof.Machine
end

section
/-! Who may write what (60_exceptions.md R137, R138), one rule per context. -/

namespace Sys2Proof.Machine

/-- The host context writes no line counter and no ET; RUN and COLOR have only START and STOP as writers. -/
theorem exec_host_frame {i : Instr} {s t : State} (hi : contextOf i = .host) (h : exec i s = .next t) :
    t.vskip = s.vskip ∧ t.aline = s.aline ∧ t.row = s.row ∧ t.rep = s.rep ∧ t.et = s.et ∧
      (t.run ≠ s.run → i = .start ∨ i = .stop) ∧ (t.color ≠ s.color → i = .start ∧ t.color = blank) := by
  rcases exec_next_cases h with ⟨-, rfl⟩ | ⟨rfl, -⟩ | ⟨j, rfl, -⟩ | ⟨a, d, -, rfl⟩ | ⟨a, -, rfl⟩ | ⟨-, rfl⟩ |
    ⟨rfl, rfl⟩ | ⟨rfl, rfl⟩ | ⟨rfl, -⟩
  · exact ⟨rfl, rfl, rfl, rfl, rfl, fun hrun => absurd rfl hrun, fun hcolor => absurd rfl hcolor⟩
  · cases hi
  · cases hi
  · exact ⟨hostWrite_vskip s a d, hostWrite_aline s a d, hostWrite_row s a d, hostWrite_rep s a d, hostWrite_et s a d,
      fun hrun => absurd (hostWrite_run s a d) hrun, fun hcolor => absurd (hostWrite_color s a d) hcolor⟩
  · exact ⟨rfl, rfl, rfl, rfl, rfl, fun hrun => absurd rfl hrun, fun hcolor => absurd rfl hcolor⟩
  · exact ⟨rfl, rfl, rfl, rfl, rfl, fun hrun => absurd rfl hrun, fun hcolor => absurd rfl hcolor⟩
  · exact ⟨rfl, rfl, rfl, rfl, rfl, fun _ => .inl rfl, fun _ => ⟨rfl, rfl⟩⟩
  · exact ⟨rfl, rfl, rfl, rfl, rfl, fun _ => .inr rfl, fun hcolor => absurd rfl hcolor⟩
  · cases hi

theorem contextOf_vertical {i : Instr} (h : contextOf i = .vertical) : i = .vtick := by
  cases i with
  | vtick => rfl
  | _ => cases h

theorem contextOf_horizontal {i : Instr} (h : contextOf i = .horizontal) : ∃ j, i = .htick j := by
  cases i with
  | htick j => exact ⟨j, rfl⟩
  | _ => cases h

theorem contextOf_reset {i : Instr} (h : contextOf i = .reset) : i = .reset := by
  cases i with
  | reset => rfl
  | _ => cases h

/-- An HTICK that answers a state took one of the three cases of its line (41_horizontal_handler.md R84). -/
theorem exec_htick_next {j : Byte} {s t : State} (h : exec (.htick j) s = .next t) :
    s.run = true ∧ ((s.lineCase = .skip ∧ t = s.skipLine) ∨ (s.lineCase = .idle ∧ t = s.idleLine) ∨
      (s.lineCase = .emit ∧ j.toNat < s.cfg.window ∧ t = s.finishLine)) := by
  simpa using exec_next_cases h

/-- Settles O28: the host context has its frame rule, the other contexts hold one event each, whose writes are known. -/
theorem contextsWriteOnlyTheirState : Obligations.ContextsWriteOnlyTheirState := by
  refine ⟨fun i s t hi h => exec_host_frame hi h, fun i s t hi h => ?vertical, fun i s t hi h => ?horizontal,
    fun i s t hi h => ?reset⟩
  case vertical =>
    obtain rfl := contextOf_vertical hi
    obtain ⟨-, rfl⟩ := exec_vtick_next h
    exact ⟨rfl, rfl, rfl⟩
  case horizontal =>
    obtain ⟨j, rfl⟩ := contextOf_horizontal hi
    obtain ⟨-, ⟨hline, rfl⟩ | ⟨-, rfl⟩ | ⟨hline, -, rfl⟩⟩ := exec_htick_next h
    · exact ⟨rfl, rfl, rfl, fun hskip => absurd hline hskip, fun _ => ⟨rfl, rfl, rfl, rfl⟩⟩
    · exact ⟨rfl, rfl, rfl, fun _ => rfl, fun _ => ⟨rfl, rfl, rfl, rfl⟩⟩
    · exact ⟨rfl, rfl, rfl, fun _ => rfl, fun hemit => absurd hline hemit⟩
  case reset =>
    obtain rfl := contextOf_reset hi
    exact exec_fb h fun a d => nofun

end Sys2Proof.Machine
end

section
/-! A stopped block (60_exceptions.md R148, R150, 42_lifecycle.md R105): without reset and START a cycle changes only the
framebuffer and the observation. -/

namespace Sys2Proof.Machine

/-- RUN = 0 with nothing pending, no body and BLANK on the output. -/
structure State.Silent (s : State) : Prop where
  run : s.run = false
  vpend : s.vpend = false
  hpend : s.hpend = false
  seq : s.seq = .idle
  color : s.color = blank

theorem silent_of_inv {s : State} (hs : s.Inv) (hrun : s.run = false) : s.Silent := by
  obtain ⟨hv, hh, hidle⟩ := hs.stopped hrun
  exact ⟨hrun, hv, hh, hidle, hs.idleBlank hidle⟩

/-- Output ports with no request, both sync lines deasserted and BLANK. -/
def PinsOut.quiet (c : Config) (o : PinsOut) : Bool :=
  !o.irqV && !o.irqH && (o.hsync == !c.hsyncPol) && (o.vsync == !c.vsyncPol) && (o.color == blank)

theorem State.Silent.quiet {s : State} (h : s.Silent) (p : PinsIn) : (s.portsOut p).quiet s.cfg = true := by
  obtain ⟨hhsync, hvsync⟩ := sync_of_stopped h.run
  simp [PinsOut.quiet, State.portsOut, h.vpend, h.hpend, hhsync, hvsync, h.color]

/-- `t` is `s` but for what the host may still change of a stopped block, its bytes and its observation, with `outs` observed. -/
def State.SameButHost (s t : State) (outs : List PinsOut) : Prop :=
  t = { s with fb := t.fb, returned := t.returned, pins := s.pins ++ outs, draws := t.draws }

theorem State.SameButHost.refl (s : State) : s.SameButHost s [] := by
  simp [State.SameButHost]

theorem State.SameButHost.trans {s t u : State} {outs outs' : List PinsOut} (h : s.SameButHost t outs)
    (h' : t.SameButHost u outs') : s.SameButHost u (outs ++ outs') := by
  unfold State.SameButHost at h h' ⊢
  rw [h', h, List.append_assoc]

theorem State.SameButHost.silent {s t : State} {outs : List PinsOut} (h : s.SameButHost t outs) (hs : s.Silent) :
    t.Silent := by
  rw [h]
  exact ⟨hs.run, hs.vpend, hs.hpend, hs.seq, hs.color⟩

/-- The timers, the line counters and ET are held. -/
theorem State.SameButHost.held {s t : State} {outs : List PinsOut} (h : s.SameButHost t outs) :
    t.hcnt = s.hcnt ∧ t.vcnt = s.vcnt ∧ t.vskip = s.vskip ∧ t.aline = s.aline ∧ t.row = s.row ∧ t.rep = s.rep ∧
      t.et = s.et := by
  rw [h]
  exact ⟨rfl, rfl, rfl, rfl, rfl, rfl, rfl⟩

theorem stopWrites_of_silent {s : State} (h : s.Silent) : s.stopWrites = s := by
  obtain ⟨hrun, hv, hh, -, -⟩ := h
  cases s
  simp_all [State.stopWrites]

/-- A host command other than START, on a silent block. -/
theorem performHost_of_silent {p : PinsIn} {s : State} (h : s.Silent) (hstart : hostCommand p ≠ .start) :
    s.SameButHost (s.performHost (hostCommand p)) [] := by
  unfold State.SameButHost
  rw [List.append_nil]
  rcases hostCommand_cases p with hc | hc | hc | hc | hc | hc <;> rw [hc, State.performHost]
  · rw [hostWrite_frame, hostWrite_frame]
  · rfl
  · rfl
  · exact absurd hc hstart
  · rw [stopWrites_of_silent h]

/-- The timers of a silent block hold and no flag comes up, so they land as they were. -/
theorem landTimers_of_silent {s b : State} {outs : List PinsOut} (p : PinsIn) (h : s.Silent)
    (hb : s.SameButHost b outs) : State.landTimers p s b = b := by
  have hsilent := hb.silent h
  obtain ⟨hhcnt, hvcnt, -⟩ := hb.held
  have hnextH : s.nextHcnt = b.hcnt := (nextHcnt_of_stopped h.run).trans hhcnt.symm
  have hnextV : s.nextVcnt = b.vcnt := (nextVcnt_of_stopped h.run).trans hvcnt.symm
  obtain ⟨hv, hh⟩ := nextPending_of_stopped p (fun _ => ⟨h.vpend, h.hpend, h.seq⟩) h.run
  rw [State.landTimers, hnextH, hnextV, hv.trans hsilent.vpend.symm, hh.trans hsilent.hpend.symm]

/-- Nothing is requested of a silent block and no body runs, so the host command is all there is (R129, R161). -/
theorem cycleBody_of_silent {p : PinsIn} {s : State} (h : s.Silent) (hstart : hostCommand p ≠ .start) :
    ∃ b, s.cycleBody p = some b ∧ s.SameButHost b [] := by
  have hentry : s.entered p = none := by
    unfold State.entered
    split
    · exact requested_none.mpr ⟨h.vpend, h.hpend⟩
    · rfl
  by_cases hready : s.hReady p = true
  · exact ⟨_, by simp [State.cycleBody, hentry, h.seq, accepted_of_ready hready], performHost_of_silent h hstart⟩
  · exact ⟨s, by simp [State.cycleBody, hentry, h.seq, State.accepted, hready], .refl s⟩

theorem cycle_of_silent {p : PinsIn} {s : State} (h : s.Silent) (hrst : p.rst = false)
    (hstart : hostCommand p ≠ .start) : ∃ t, cycle p s = .next t ∧ s.SameButHost t [s.portsOut p] := by
  have hobs : s.SameButHost (s.observePins p) [s.portsOut p] := rfl
  obtain ⟨b, hb, hbody⟩ := cycleBody_of_silent (hobs.silent h) hstart
  have hsame : s.SameButHost b [s.portsOut p] := hobs.trans hbody
  have hlost : s.lostTick p = false := by simp [State.lostTick, h.hpend]
  refine ⟨b, ?_, hsame⟩
  by_cases hov : s.overridden p = true
  · exact cycle_of_overridden hrst hov hb
  · rw [cycle_of_body_some hrst (by simpa using hov) hlost hb, landTimers_of_silent p h hsame]

theorem runCycles_of_silent (ps : List PinsIn) {s : State} (h : s.Silent)
    (hps : ∀ p ∈ ps, p.rst = false ∧ hostCommand p ≠ .start) :
    ∃ t outs, runCycles ps s = .next t ∧ s.SameButHost t outs ∧ ∀ o ∈ outs, o.quiet s.cfg = true := by
  induction ps generalizing s with
  | nil => exact ⟨s, [], rfl, .refl s, nofun⟩
  | cons p ps ih =>
    obtain ⟨⟨hrst, hstart⟩, hrest⟩ := List.forall_mem_cons.mp hps
    obtain ⟨u, hcycle, hu⟩ := cycle_of_silent h hrst hstart
    obtain ⟨t, outs, hruns, ht, hquiet⟩ := ih (hu.silent h) hrest
    have hcfg : u.cfg = s.cfg := cycle_cfg hcycle
    exact ⟨t, s.portsOut p :: outs, runCycles_cons.mpr ⟨u, hcycle, hruns⟩, hu.trans ht,
      List.forall_mem_cons.mpr ⟨h.quiet p, hcfg ▸ hquiet⟩⟩

/-- Settles O54: a stopped state of the invariant is silent, and a silent block stays so. -/
theorem stoppedBlockStaysSilent : Obligations.StoppedBlockStaysSilent := by
  intro ps s hs hrun hps
  have hsilent := silent_of_inv hs hrun
  obtain ⟨t, outs, hruns, ht, hquiet⟩ := runCycles_of_silent ps hsilent hps
  have hend := ht.silent hsilent
  have hpins : t.pins = s.pins ++ outs := congrArg State.pins ht
  obtain ⟨hhcnt, hvcnt, hvskip, haline, hrow, hrep, het⟩ := ht.held
  refine ⟨t, hruns, hend.run, hend.vpend, hend.hpend, hend.seq, hhcnt, hvcnt, hvskip, haline, hrow, hrep, het, ?_⟩
  rw [hpins, List.drop_left]
  exact List.all_eq_true.mpr hquiet

end Sys2Proof.Machine
end

section
/-! The timers over a run (60_exceptions.md R139, R140): they count its cycles. -/

namespace Sys2Proof.Machine

/-- Counting up to a last value and from there to zero is counting modulo the period. -/
theorem count_mod_period (n : Nat) {m : Nat} (hm : 0 < m) :
    (if n % m = m - 1 then 0 else n % m + 1) = (n + 1) % m := by
  obtain ⟨-, hrem⟩ := succ_div_mod n hm
  rw [hrem]
  split <;> split <;> omega

/-- From the counts of `n` cycles a run goes on to those of its own cycles more. -/
theorem runCycles_timers (ps : List PinsIn) (n : Nat) {s t : State} (hclk : s.cfg.ClockedAdmissible)
    (hrun : s.run = true) (hhcnt : s.hcnt = n % s.cfg.linePeriod) (hvcnt : s.vcnt = n % s.cfg.framePeriod)
    (hps : ∀ p ∈ ps, p.rst = false ∧ hostCommand p ≠ .start ∧ hostCommand p ≠ .stop) (h : runCycles ps s = .next t) :
    t.run = true ∧ t.hcnt = (n + ps.length) % s.cfg.linePeriod ∧ t.vcnt = (n + ps.length) % s.cfg.framePeriod := by
  induction ps generalizing n s with
  | nil =>
    obtain rfl : s = t := Host.Outcome.next.inj h
    exact ⟨hrun, hhcnt, hvcnt⟩
  | cons p ps ih =>
    obtain ⟨⟨hrst, hstart, hstop⟩, hrest⟩ := List.forall_mem_cons.mp hps
    obtain ⟨u, hcycle, hruns⟩ := runCycles_cons.mp h
    obtain ⟨-, hu⟩ := timersLanded_of_cycle hrst (overridden_of_command s hstart hstop) hcycle
    have hh : u.hcnt = (n + 1) % s.cfg.linePeriod := by
      rw [hu.hcnt, nextHcnt_of_run hrun, hhcnt, count_mod_period n (Config.linePeriod_pos hclk)]
    have hv : u.vcnt = (n + 1) % s.cfg.framePeriod := by
      rw [hu.vcnt, nextVcnt_of_run hrun, hvcnt, count_mod_period n (Config.framePeriod_pos hclk)]
    rw [List.length_cons, Nat.add_comm ps.length 1, ← Nat.add_assoc]
    rw [← hu.cfg] at hclk hh hv ⊢
    exact ih (n + 1) hclk (hu.run.trans hrun) hh hv hrest hruns

/-- Settles O46: zeroed counters are those of no cycle. -/
theorem timersCountModuloTheirPeriods : Obligations.TimersCountModuloTheirPeriods := by
  intro ps s t hclk hrun hhcnt hvcnt hps h
  have hcount := runCycles_timers ps 0 hclk hrun (hhcnt.trans (Nat.zero_mod _).symm) (hvcnt.trans (Nat.zero_mod _).symm)
    hps h
  rwa [Nat.zero_add] at hcount

end Sys2Proof.Machine
end

section
/-! SUPPORT. The line of the frame the timers are on: VCNT counts the cycles of a frame, LINE_PERIOD to a line
(60_exceptions.md R139 to R141). -/

namespace Sys2Proof.Machine

/-- The lines of the frame that are over. -/
def State.frameLine (s : State) : Nat := s.vcnt / s.cfg.linePeriod

theorem frameLine_lt {s : State} (h : s.TimersInStep) : s.frameLine < s.cfg.frameLines := by
  obtain ⟨-, hv, -⟩ := h
  exact Nat.div_lt_of_lt_mul (by rwa [Nat.mul_comm])

theorem frameLine_of_zero {s : State} (h : s.vcnt = 0) : s.frameLine = 0 := by
  rw [State.frameLine, h, Nat.zero_div]

/-- A frame ends at the end of its last line. -/
theorem frameLine_of_vTick {s : State} (hclk : s.cfg.ClockedAdmissible) (h : s.vTick = true) :
    s.frameLine + 1 = s.cfg.frameLines := by
  obtain ⟨-, hlast⟩ := vTick_iff.mp h
  have hpos := Config.linePeriod_pos hclk
  have hsucc : s.cfg.framePeriod - 1 + 1 = s.cfg.frameLines * s.cfg.linePeriod :=
    Nat.sub_add_cancel (Config.framePeriod_pos hclk)
  obtain ⟨hquot, -⟩ := succ_div_mod (s.cfg.framePeriod - 1) hpos
  rw [framePeriod_pred_mod hclk, Nat.sub_add_cancel hpos, if_pos rfl, hsucc, Nat.mul_div_cancel _ hpos] at hquot
  rw [State.frameLine, hlast, hquot]

section Next

variable {p : PinsIn} {s t : State} (hclk : s.cfg.ClockedAdmissible) (hrun : s.run = true) (h : s.TimersInStep)
  (hland : s.TimersLanded p t)

include hrun hland

theorem frameLine_next_of_vTick (hv : s.vTick = true) : t.frameLine = 0 := by
  obtain ⟨-, hlast⟩ := vTick_iff.mp hv
  exact frameLine_of_zero (by rw [hland.vcnt, nextVcnt_of_run hrun, if_pos hlast])

include hclk h

/-- Away from the end of a frame a line is over with each horizontal tick. -/
theorem frameLine_next_of_not_vTick (hv : s.vTick = false) : t.frameLine = s.frameLine + s.hTick.toNat := by
  obtain ⟨-, -, hstep⟩ := h
  have hmore : s.vcnt ≠ s.cfg.framePeriod - 1 := fun hlast => by simp [State.vTick, hrun, hlast] at hv
  obtain ⟨hquot, -⟩ := succ_div_mod s.vcnt (Config.linePeriod_pos hclk)
  have hnext : t.frameLine = (s.vcnt + 1) / s.cfg.linePeriod := by
    rw [State.frameLine, hland.vcnt, nextVcnt_of_run hrun, if_neg hmore, hland.cfg]
  have hend : s.hcnt + 1 = s.cfg.linePeriod ↔ s.hTick = true := by
    have := Config.linePeriod_pos hclk
    rw [hTick_iff, and_iff_right hrun]
    omega
  rw [hnext, hquot, hstep]
  cases htick : s.hTick with
  | true => rw [if_pos (hend.mpr htick)]; rfl
  | false => rw [if_neg (by simp [hend, htick])]; rfl

/-- The horizontal ticks so far are the lines of the frames that are over and of this one. -/
theorem frameLine_next : s.cfg.frameLines * s.vTick.toNat + t.frameLine = s.frameLine + s.hTick.toNat := by
  cases hv : s.vTick with
  | true =>
    rw [frameLine_next_of_vTick hrun hland hv, hTick_of_vTick hclk h hv]
    simpa using (frameLine_of_vTick hclk hv).symm
  | false => simpa using frameLine_next_of_not_vTick hclk hrun h hland hv

end Next

end Sys2Proof.Machine
end

section
/-! The tick pattern (60_exceptions.md R142): every tick is served before the next one of its channel, the vertical one first, so
the handlers are entered in the order of the ticks. -/

namespace Sys2Proof.Machine

/-! ## The pattern at the counts of entries so far -/

theorem tickPattern_vertical {c : Config} {h v : Nat} (hcount : h + 1 = c.frameLines * (v + 1)) :
    tickPattern c (h + v) = .vertical := by
  have hpos : h + v + 1 - c.frameLines = (c.frameLines + 1) * v := by
    rw [Nat.mul_add] at hcount
    rw [Nat.add_mul]
    omega
  have hle : c.frameLines ≤ h + 1 := by rw [hcount, Nat.mul_add]; omega
  rw [tickPattern, if_neg (by omega), hpos, Nat.mul_mod_right, if_pos rfl]

theorem tickPattern_horizontal {c : Config} {h v line : Nat} (hcount : h + 1 = c.frameLines * v + line)
    (hline : line < c.frameLines) : tickPattern c (h + v) = .horizontal := by
  unfold tickPattern
  split
  · rfl
  next hfull =>
    obtain _ | v := v
    · omega
    have hpos : h + (v + 1) + 1 - c.frameLines = line + 1 + (c.frameLines + 1) * v := by
      rw [Nat.mul_add] at hcount
      rw [Nat.add_mul]
      omega
    rw [hpos, Nat.add_mul_mod_self_left, Nat.mod_eq_of_lt (by omega), if_neg (by omega)]

theorem count_handlers (es : List Handler) : es.count .horizontal + es.count .vertical = es.length := by
  induction es with
  | nil => rfl
  | cons e es ih => cases e <;> simp <;> omega

/-! ## The invariant of a run -/

/-- After the entries `es` since START: the horizontal ticks, counted in lines, are those served and the one pending; a pending
vertical request came with a horizontal one that is pending too, and no line has ended since; the entries follow the pattern. -/
structure State.Served (s : State) (es : List Handler) : Prop where
  run : s.run = true
  timers : s.TimersInStep
  ticks : es.count .horizontal + s.hpend.toNat =
    s.cfg.frameLines * (es.count .vertical + s.vpend.toNat) + s.frameLine
  vertical : s.vpend = true → s.hpend = true ∧ s.frameLine = 0
  pattern : es = (List.range es.length).map (tickPattern s.cfg)

theorem served_of_start {s : State} (hclk : s.cfg.ClockedAdmissible) (hrun : s.run = true) (hhcnt : s.hcnt = 0)
    (hvcnt : s.vcnt = 0) (hvpend : s.vpend = false) (hhpend : s.hpend = false) : s.Served [] where
  run := hrun
  timers := TimersInStep_of_zero hclk hhcnt hvcnt
  ticks := by simp [hvpend, hhpend, frameLine_of_zero hvcnt]
  vertical hv := absurd (hvpend.symm.trans hv) (by decide)
  pattern := rfl

/-- A flag goes up with a tick and down with its entry, so as long as no tick finds it up and left waiting, the ticks are those
entered and the one pending. -/
theorem flag_conserves_ticks {pend taken tick : Bool} (htaken : taken = true → pend = true)
    (hkept : (tick && pend && !taken) = false) :
    taken.toNat + ((pend && !taken) || tick).toNat = pend.toNat + tick.toNat := by
  revert pend taken tick
  decide

theorem count_entered (e : Option Handler) (k : Handler) : e.toList.count k = (e == some k).toNat := by
  cases e with
  | none => rfl
  | some j => cases j <;> cases k <;> rfl

section Cycle

variable {p : PinsIn} {s t : State} {es : List Handler}

/-- The handler entered is the next of the pattern. -/
theorem State.Served.tickPattern_of_entered {k : Handler} (h : s.Served es) (hentry : s.entered p = some k) :
    tickPattern s.cfg es.length = k := by
  obtain ⟨-, -, hrequest⟩ := entered_some hentry
  have hticks := h.ticks
  rw [← count_handlers]
  cases k with
  | vertical =>
    have hv := requested_vertical.mp hrequest
    obtain ⟨hh, hline⟩ := h.vertical hv
    rw [hv, hh, hline] at hticks
    exact tickPattern_vertical hticks
  | horizontal =>
    obtain ⟨hv, hh⟩ := requested_horizontal.mp hrequest
    rw [hv, hh] at hticks
    exact tickPattern_horizontal hticks (frameLine_lt h.timers)

theorem State.Served.pattern_next (h : s.Served es) :
    es ++ (s.entered p).toList =
      (List.range (es ++ (s.entered p).toList).length).map (tickPattern s.cfg) := by
  cases hentry : s.entered p with
  | none => simpa using h.pattern
  | some k =>
    rw [Option.toList_some, List.length_append, List.length_singleton, List.range_succ, List.map_append, ← h.pattern,
      List.map_singleton, h.tickPattern_of_entered hentry]

/-- A vertical request still waiting keeps the horizontal one waiting, so the line cannot end (R132). -/
theorem State.Served.hTick_of_waiting (h : s.Served es) (hlost : s.lostTick p = false) (hv : s.vpend = true) :
    s.hTick = false := by
  obtain ⟨hh, -⟩ := h.vertical hv
  rw [Bool.eq_false_iff]
  intro htick
  exact Bool.eq_false_iff.mp hlost (lostTick_iff.mpr ⟨htick, hh, entered_ne_horizontal hv⟩)

theorem hpend_next (hlost : s.lostTick p = false) :
    (s.entered p).toList.count .horizontal + (s.nextHpend p).toNat = s.hpend.toNat + s.hTick.toNat := by
  rw [count_entered]
  refine flag_conserves_ticks (fun hentry => ?_) hlost
  obtain ⟨-, -, hrequest⟩ := entered_some (eq_of_beq hentry)
  exact (requested_horizontal.mp hrequest).2

theorem State.Served.vpend_next (hclk : s.cfg.ClockedAdmissible) (h : s.Served es) (hlost : s.lostTick p = false) :
    (s.entered p).toList.count .vertical + (s.nextVpend p).toNat = s.vpend.toNat + s.vTick.toNat := by
  rw [count_entered]
  refine flag_conserves_ticks (fun hentry => ?_) ?_
  · obtain ⟨-, -, hrequest⟩ := entered_some (eq_of_beq hentry)
    exact requested_vertical.mp hrequest
  · rw [Bool.and_assoc, Bool.and_eq_false_iff, Bool.and_eq_false_iff]
    by_contra hboth
    simp only [not_or, Bool.not_eq_false] at hboth
    obtain ⟨hvtick, hv, -⟩ := hboth
    have hhtick := hTick_of_vTick hclk h.timers hvtick
    exact absurd (hhtick.symm.trans (h.hTick_of_waiting hlost hv)) (by decide)

/-- The ticks stay those served and those pending. -/
theorem State.Served.ticks_next (hclk : s.cfg.ClockedAdmissible) (h : s.Served es) (hlost : s.lostTick p = false)
    (hland : s.TimersLanded p t) :
    (es ++ (s.entered p).toList).count .horizontal + t.hpend.toNat =
      s.cfg.frameLines * ((es ++ (s.entered p).toList).count .vertical + t.vpend.toNat) + t.frameLine := by
  have hv := h.vpend_next hclk hlost
  have hh := hpend_next hlost
  have hframe := frameLine_next hclk h.run h.timers hland
  have hticks := h.ticks
  rw [hland.hpend, hland.vpend, List.count_append, List.count_append, Nat.add_assoc, Nat.add_assoc, hv, hh,
    ← Nat.add_assoc _ s.vpend.toNat, Nat.mul_add, Nat.add_assoc _ _ t.frameLine, hframe]
  omega

theorem State.Served.vertical_next (hclk : s.cfg.ClockedAdmissible) (h : s.Served es) (hlost : s.lostTick p = false)
    (hland : s.TimersLanded p t) (hvpend : t.vpend = true) : t.hpend = true ∧ t.frameLine = 0 := by
  rw [hland.hpend, nextHpend_iff]
  rcases nextVpend_iff.mp (hland.vpend.symm.trans hvpend) with hvtick | ⟨hv, -⟩
  · exact ⟨.inl (hTick_of_vTick hclk h.timers hvtick), frameLine_next_of_vTick h.run hland hvtick⟩
  · obtain ⟨hh, hline⟩ := h.vertical hv
    refine ⟨.inr ⟨hh, entered_ne_horizontal hv⟩, ?_⟩
    have hframe := frameLine_next hclk h.run h.timers hland
    rw [h.hTick_of_waiting hlost hv, hline] at hframe
    exact Nat.eq_zero_of_add_eq_zero_left hframe

/-- One cycle of the run. -/
theorem State.Served.next (hclk : s.cfg.ClockedAdmissible) (h : s.Served es) (hlost : s.lostTick p = false)
    (hland : s.TimersLanded p t) : t.Served (es ++ (s.entered p).toList) where
  run := hland.run.trans h.run
  timers := by
    have hlanded : (State.landTimers p s s).TimersInStep := TimersInStep_landTimers rfl hclk h.timers
    simp only [State.TimersInStep, hland.hcnt, hland.vcnt, hland.cfg]
    exact hlanded
  ticks := by
    rw [hland.cfg]
    exact h.ticks_next hclk hlost hland
  vertical := h.vertical_next hclk hlost hland
  pattern := by
    rw [hland.cfg]
    exact h.pattern_next

end Cycle

/-! ## The entries of a run (R169) -/

/-- Of the events read off a cycle without reset only its entry invokes a handler. -/
theorem handlers_of_readOff {p : PinsIn} (prev : Bool) (s : State) (hrst : p.rst = false) :
    (readOff prev p s).toList.filterMap handlerOf = (s.entered p).toList := by
  cases hentry : s.entered p with
  | none =>
    rw [readOff_host hrst prev hentry]
    cases hacc : s.accepted p with
    | none => rfl
    | some i =>
      obtain ⟨-, rfl⟩ := accepted_some hacc
      rcases hostCommand_cases p with hc | hc | hc | hc | hc | hc <;> rw [hc] <;> rfl
  | some k =>
    cases k with
    | vertical => rw [readOff_vertical hrst prev hentry]; rfl
    | horizontal => rw [readOff_horizontal hrst prev hentry]; rfl

theorem runCycles_served (ps : List PinsIn) {prev : Bool} {s t : State} {es : List Handler}
    (hclk : s.cfg.ClockedAdmissible) (hserved : s.Served es)
    (hps : ∀ p ∈ ps, p.rst = false ∧ hostCommand p ≠ .start ∧ hostCommand p ≠ .stop) (h : runCycles ps s = .next t) :
    t.cfg = s.cfg ∧ t.Served (es ++ (readOffRun prev ps s).filterMap handlerOf) := by
  induction ps generalizing prev s es with
  | nil =>
    obtain rfl : s = t := Host.Outcome.next.inj h
    exact ⟨rfl, by simpa [readOffRun] using hserved⟩
  | cons p ps ih =>
    obtain ⟨⟨hrst, hstart, hstop⟩, hrest⟩ := List.forall_mem_cons.mp hps
    obtain ⟨u, hcycle, hruns⟩ := runCycles_cons.mp h
    obtain ⟨hlost, hland⟩ := timersLanded_of_cycle hrst (overridden_of_command s hstart hstop) hcycle
    obtain ⟨hcfg, hend⟩ := ih (prev := p.rst) (hland.cfg ▸ hclk) (hserved.next hclk hlost hland) hrest hruns
    rw [readOffRun_cons prev hcycle, List.filterMap_append, handlers_of_readOff prev s hrst, ← List.append_assoc]
    exact ⟨hcfg.trans hland.cfg, hend⟩

/-- Settles O53: what START leaves has served every tick so far, and a run keeps that. -/
theorem handlerEntriesFollowTheTickPattern : Obligations.HandlerEntriesFollowTheTickPattern := by
  intro ps s t _ hclk hrun hhcnt hvcnt hvpend hhpend _ hps h entries hentries
  have hstart := served_of_start hclk hrun hhcnt hvcnt hvpend hhpend
  obtain ⟨hcfg, hserved⟩ := runCycles_served ps (prev := false) hclk hstart hps h
  rw [List.nil_append, ← hentries] at hserved
  exact hcfg ▸ hserved.pattern

end Sys2Proof.Machine
end

section
/-! SUPPORT. The host port over one cycle (70_reset_and_hazards.md R160, R168): a cycle without h_ready, a cycle that accepts a
command, and what h_rdata shows in it. -/

namespace Sys2Proof.Machine

/-! ## Cycles in which the host is held off (R134, R168) -/

theorem accepted_of_not_ready {p : PinsIn} {s : State} (h : s.hReady p = false) : s.accepted p = none := by
  simp [State.accepted, h]

theorem not_ready_of_entered {p : PinsIn} {s : State} (h : s.entered p ≠ none) : s.hReady p = false := by
  obtain ⟨k, hentry⟩ := Option.ne_none_iff_exists'.mp h
  obtain ⟨hack, -, -⟩ := entered_some hentry
  simp [State.hReady, hack]

@[simp] theorem alignStep_fb (s : State) : s.alignStep.fb = s.fb := by
  unfold State.alignStep; split <;> rfl

@[simp] theorem alignStep_returned (s : State) : s.alignStep.returned = s.returned := by
  unfold State.alignStep; split <;> rfl

@[simp] theorem nextSample_fb (s : State) : s.nextSample.fb = s.fb := by
  unfold State.nextSample; split <;> rfl

@[simp] theorem nextSample_returned (s : State) : s.nextSample.returned = s.returned := by
  unfold State.nextSample; split <;> rfl

@[simp] theorem emitStep_fb (s : State) : s.emitStep.fb = s.fb := by
  unfold State.emitStep; split <;> [rfl; split <;> simp]

@[simp] theorem emitStep_returned (s : State) : s.emitStep.returned = s.returned := by
  unfold State.emitStep; split <;> [rfl; split <;> simp]

theorem enterHorizontal_fb_returned {s b : State} (h : s.enterHorizontal = some b) :
    b.fb = s.fb ∧ b.returned = s.returned := by
  rcases enterHorizontal_cases h with ⟨-, rfl⟩ | ⟨-, rfl⟩ | ⟨-, -, -, rfl⟩ <;> exact ⟨rfl, rfl⟩

/-- Of the exclusive steps of a cycle only the host command can store a byte or return a value. -/
theorem cycleBody_fb_returned {p : PinsIn} {s b : State} (hready : s.hReady p = false) (h : s.cycleBody p = some b) :
    b.fb = s.fb ∧ b.returned = s.returned := by
  rcases cycleBody_cases h with ⟨-, rfl⟩ | ⟨-, hentry⟩ | ⟨-, -, rfl⟩ | ⟨-, -, rfl⟩ | ⟨-, -, hacc, -⟩ | ⟨-, -, -, rfl⟩
  · exact ⟨rfl, rfl⟩
  · exact enterHorizontal_fb_returned hentry
  · exact ⟨alignStep_fb s, alignStep_returned s⟩
  · exact ⟨emitStep_fb s, emitStep_returned s⟩
  · exact absurd (hacc.symm.trans (accepted_of_not_ready hready)) (Option.some_ne_none _)
  · exact ⟨rfl, rfl⟩

theorem cycle_fb_returned {p : PinsIn} {s t : State} (hready : s.hReady p = false) (h : cycle p s = .next t) :
    t.fb = s.fb ∧ t.returned = s.returned := by
  rcases cycle_next_cases h with ⟨-, rfl⟩ | ⟨-, b, hb, hland⟩
  · exact ⟨rfl, rfl⟩
  · have hbody : b.fb = s.fb ∧ b.returned = s.returned := cycleBody_fb_returned (s := s.observePins p) hready hb
    rcases hland with ⟨-, rfl⟩ | ⟨-, -, rfl⟩ <;> exact hbody

/-! ## Cycles that accept a command (R160, R161) -/

theorem entered_of_ready {p : PinsIn} {s : State} (h : s.hReady p = true) : s.entered p = none := by
  obtain ⟨-, -, hack⟩ := hReady_iff.mp h
  simp [State.entered, hack]

theorem cycleBody_of_ready {p : PinsIn} {s : State} (h : s.hReady p = true) :
    s.cycleBody p = some (s.performHost (hostCommand p)) := by
  obtain ⟨-, hidle, -⟩ := hReady_iff.mp h
  simp [State.cycleBody, entered_of_ready h, hidle, accepted_of_ready h]

theorem nextVpend_of_ready {p : PinsIn} {s : State} (h : s.hReady p = true) : s.nextVpend p = (s.vpend || s.vTick) := by
  rw [Bool.eq_iff_iff, nextVpend_iff, entered_of_ready h]
  simp [or_comm]

theorem nextHpend_of_ready {p : PinsIn} {s : State} (h : s.hReady p = true) : s.nextHpend p = (s.hpend || s.hTick) := by
  rw [Bool.eq_iff_iff, nextHpend_iff, entered_of_ready h]
  simp [or_comm]

/-- A command neither reads nor writes the output ports observed (10_state.md R32 (c)). -/
theorem performHost_observePins (p : PinsIn) (s : State) :
    (s.observePins p).performHost (hostCommand p) =
      { s.performHost (hostCommand p) with pins := s.pins ++ [s.portsOut p], draws := (s.observePins p).draws } := by
  rcases hostCommand_cases p with h | h | h | h | h | h <;> rw [h]
  case inr.inl =>
    rw [State.performHost, State.performHost, hostWrite_frame, hostWrite_frame s, hostWrite_fb, hostWrite_fb]
    rfl
  all_goals rfl

theorem cycle_of_command {p : PinsIn} {s : State} (hready : s.hReady p = true) (hstart : hostCommand p ≠ .start)
    (hstop : hostCommand p ≠ .stop) (hlost : s.lostTick p = false) :
    cycle p s = .next (State.landTimers p s ((s.observePins p).performHost (hostCommand p))) := by
  obtain ⟨hrst, -, -⟩ := hReady_iff.mp hready
  exact cycle_of_body_some hrst (overridden_of_command s hstart hstop) hlost
    (cycleBody_of_ready (s := s.observePins p) hready)

theorem cycle_of_startStop {p : PinsIn} {s : State} (hready : s.hReady p = true)
    (hcommand : hostCommand p = .start ∨ hostCommand p = .stop) :
    cycle p s = .next ((s.observePins p).performHost (hostCommand p)) := by
  obtain ⟨hrst, -, -⟩ := hReady_iff.mp hready
  exact cycle_of_overridden hrst (overridden_iff.mpr ⟨hready, hcommand⟩)
    (cycleBody_of_ready (s := s.observePins p) hready)

/-! ## h_rdata (R160) -/

theorem portsOut_hRdata {p : PinsIn} {s : State} {v : Nat} (h : s.rdata p = some v) : (s.portsOut p).hRdata = v := by
  simp [State.portsOut, h]

theorem rdata_fbrd {p : PinsIn} {s : State} {a : Addr} (hready : s.hReady p = true)
    (hcommand : hostCommand p = .fbrd a) : s.rdata p = some (s.hostRead a).toNat := by
  simp [State.rdata, accepted_of_ready hready, hcommand]

theorem rdata_rdet {p : PinsIn} {s : State} (hready : s.hReady p = true) (hcommand : hostCommand p = .rdet) :
    s.rdata p = some s.et := by
  simp [State.rdata, accepted_of_ready hready, hcommand]

end Sys2Proof.Machine
end

section
/-! The statements about reset, the host port and the contract of the environment in one cycle (70_reset_and_hazards.md R155,
R160, R161, R168, R172). -/

namespace Sys2Proof.Machine

/-- Settles O36: `cycle_rst` gives the state, which differs from that after RESET in the observation only. -/
theorem resetPinOverridesEverything : Obligations.ResetPinOverridesEverything :=
  fun _ s hrst => ⟨_, s.resetRegisters, cycle_rst hrst, rfl, rfl, rfl⟩

/-- Settles O38: an entry needs the acknowledge and a body a busy sequencer, so neither cycle has h_ready; without h_ready no
step of the cycle stores or returns anything, and no START or STOP is there to write RUN. -/
theorem hostIsHeldOffUnlessReady : Obligations.HostIsHeldOffUnlessReady := by
  refine ⟨fun _ _ => hReady_iff, fun p s hbusy => ?busy, fun p s t hrst hready h => ?heldOff⟩
  case busy =>
    rcases hbusy with hentry | hbody
    · exact accepted_of_not_ready (not_ready_of_entered hentry)
    · exact accepted_of_not_idle hbody
  case heldOff =>
    obtain ⟨hfb, hreturned⟩ := cycle_fb_returned hready h
    obtain ⟨-, hlanded⟩ := timersLanded_of_cycle hrst (overridden_of_not_ready hready) h
    exact ⟨memRead_congr hfb, hreturned, hlanded.run⟩

/-- Settles O39: the cycle is the command on the observed state, with the timers landed after it unless START or STOP overrides
them; there is no entry in it, so no pending flag is taken. -/
theorem acceptedCommandsAct : Obligations.AcceptedCommandsAct := by
  refine ⟨fun p s hready hstart hstop hlost => ?command, fun p s hready hcommand => ?startStop, fun p s hready =>
    ⟨fun a hcommand => portsOut_hRdata (rdata_fbrd hready hcommand),
      fun hcommand => portsOut_hRdata (rdata_rdet hready hcommand)⟩⟩
  all_goals obtain ⟨-, hidle, -⟩ := hReady_iff.mp hready
  case command =>
    refine ⟨_, _, cycle_of_command hready hstart hstop hlost, exec_hostCommand p s, by simpa using hidle, by simp, ?_⟩
    rw [State.landTimers, nextVpend_of_ready hready, nextHpend_of_ready hready, performHost_observePins]
  case startStop =>
    refine ⟨_, _, cycle_of_startStop hready hcommand, exec_hostCommand p s, by simpa using hidle, by simp, ?_⟩
    rw [performHost_observePins]

/-- The contract in a cycle without reset (R172 (a) to (c)): an acknowledge answers a request, a lost tick is overridden, and a
horizontal entry has a state to go to. -/
theorem envOk_iff {p : PinsIn} {s : State} (hrst : p.rst = false) :
    envOk p s = true ↔
      (p.iack = true → s.requested ≠ none) ∧ (s.lostTick p = true → s.overridden p = true) ∧
        (s.entered p = some .horizontal → s.enterHorizontal ≠ none) := by
  rw [envOk, hrst, Bool.false_or, Bool.and_eq_true, Bool.and_eq_true, and_assoc]
  refine and_congr ?request (and_congr ?tick ?window)
  case request =>
    rw [Ne, requested_none]
    cases p.iack <;> simp [or_iff_not_imp_left]
  case tick => simp [imp_iff_not_or]
  case window =>
    rw [Ne, enterHorizontal_none]
    simp [imp_iff_not_or, or_assoc]

/-- Settles O44: a cycle faults only for want of a body or for a lost tick, and the contract excludes both. -/
theorem keptContractNeverFaults : Obligations.KeptContractNeverFaults := by
  intro p s _ _ henv
  by_cases hrst : p.rst = true
  case pos => exact ⟨_, cycle_rst hrst⟩
  case neg =>
    rw [Bool.not_eq_true] at hrst
    obtain ⟨-, hlost, hline⟩ := (envOk_iff hrst).mp henv
    obtain ⟨b, hb⟩ := cycleBody_observePins_isSome hline
    by_cases hov : s.overridden p = true
    case pos => exact ⟨b, cycle_of_overridden hrst hov hb⟩
    case neg => exact ⟨_, cycle_of_body_some hrst (by simpa using hov) (by simpa using mt hlost hov) hb⟩

end Sys2Proof.Machine
end
